-- ==== Sys2Proof/Word.lean ====
section
/-! DEFINITION. The value types of the core: bytes, 32-bit words and 128-bit blocks (spec 00_scope section 5).
Every value of this hardware is unsigned (00_scope section 5); how bytes stand in words and blocks is Machine/Operands.lean's. -/

namespace Sys2Proof

/-- A byte, 8 bits (R30). -/
abbrev Byte := BitVec 8

/-- A 32-bit word (R4, WORD_BITS). -/
abbrev Word := BitVec 32

/-- A 128-bit block: the 128-bit integer view of 16 bytes, byte 0 most significant (00_scope section 5, R90). -/
abbrev Block := BitVec 128

end Sys2Proof
end

