-- ==== Sys2Proof/Syntax.lean ====
section
/-! DEFINITION. The four commands of the core (spec 30_encoding, opcode_table.json) as an inductive, the host's transport form of a
command (a command word and its operand buffers, R50, R55), the rows of the encoding table (R52), and R61's assembler lines. -/

namespace Sys2Proof

/-- A command with its operands: the inductive form that the opening of spec 30_encoding offers. `keyLen` is a byte count;
what the command word can express of it is WellFormed.lean's check (R53). -/
inductive Instr where
  /-- INIT (R100): context reference valid, key reference valid, key length in bytes, the 32 bytes of KEY. -/
  | init (ctxv keyv : Bool) (keyLen : Nat) (key : Vector Byte 32)
  /-- ENC, the spec's ENCRYPT_BLOCK (R121): the 16 bytes of DIN. -/
  | enc (din : Vector Byte 16)
  /-- DEC, the spec's DECRYPT_BLOCK (R122): the 16 bytes of DIN. -/
  | dec (din : Vector Byte 16)
  /-- DEINIT (R136). -/
  | deinit
  deriving DecidableEq, Repr

/-- A command as the host issues it: the word CMD together with the operand buffers (R17, R50, R55). -/
structure Command where
  cmd : Word
  key : Vector Byte 32
  din : Vector Byte 16
  deriving DecidableEq, Repr

/-- Why a command word is no command of the spec (R58). -/
inductive DecodeError where
  /-- One of bits 31..16 or 7..4 is nonzero. -/
  | reservedBits
  /-- OP is 1, 2 or 3 and one of bits 15..2 is nonzero, all reserved bits being zero. -/
  | strayFields
  deriving DecidableEq, Repr

/-- A row of the table of R52: a word `w` selects it when `w &&& mask = pattern`. -/
structure OpRow where
  mnemonic : String
  pattern : Word
  mask : Word
  deriving DecidableEq, Repr

/-- One line of the assembler of R61. `key = none` is `key=null`; `ctxNull` is `ctx=null`. -/
inductive AsmLine where
  | init (len : Nat) (key : Option (List Byte)) (ctxNull : Bool)
  | enc (block : Vector Byte 16)
  | dec (block : Vector Byte 16)
  | deinit
  deriving DecidableEq, Repr

end Sys2Proof
end

