-- ==== Sys2Proof/WellFormed.lean ====
section
/-! DEFINITION. Which commands and assembler lines the encoding can express (R53, R55). -/

namespace Sys2Proof

/-- KEYLEN is 8 bits, so a key length above 255 cannot be expressed (R53); every other operand is of its width by its type. -/
def Instr.wellFormed : Instr → Bool
  | .init _ _ keyLen _ => keyLen < 256
  | .enc _ => true
  | .dec _ => true
  | .deinit => true

/-- An assembler line that R61 can assemble: the length fits KEYLEN (R53) and the listed bytes fit KEY (R55). -/
def AsmLine.wellFormed : AsmLine → Bool
  | .init len none _ => len < 256
  | .init len (some bytes) _ => len < 256 && bytes.length ≤ 32
  | .enc _ => true
  | .dec _ => true
  | .deinit => true

end Sys2Proof
end

