-- ==== Sys2Proof/Decode.lean ====
section
/-! DEFINITION. The decoder and the encoder of command words (spec 30_encoding), R61's assembler, and the host's entry
`decodeTableWord`. -/

namespace Sys2Proof

/-- The INIT row of R52. -/
def initRow : OpRow := ⟨"INIT", 0x00000000, 0xFFFF00F3⟩
/-- The ENC row of R52. -/
def encRow : OpRow := ⟨"ENC", 0x00000001, 0xFFFFFFFF⟩
/-- The DEC row of R52. -/
def decRow : OpRow := ⟨"DEC", 0x00000002, 0xFFFFFFFF⟩
/-- The DEINIT row of R52. -/
def deinitRow : OpRow := ⟨"DEINIT", 0x00000003, 0xFFFFFFFF⟩

/-- The table of R52. -/
def opRows : List OpRow := [initRow, encRow, decRow, deinitRow]

/-- "A word `w` selects a row when `w & mask = match`" (R52). -/
def selectsRow (r : OpRow) (w : Word) : Bool := w &&& r.mask == r.pattern

/-- Field OP, bits 1..0 (R50). -/
def opField (w : Word) : BitVec 2 := w.extractLsb' 0 2
/-- Field CTXV, bit 2 (R50). -/
def ctxvField (w : Word) : Bool := w.getLsbD 2
/-- Field KEYV, bit 3 (R50). -/
def keyvField (w : Word) : Bool := w.getLsbD 3
/-- Field KEYLEN, bits 15..8, unsigned and taken as is (R50, R53). -/
def keyLenField (w : Word) : Nat := (w.extractLsb' 8 8).toNat
/-- Are all reserved bits 31..16 and 7..4 zero (R50)? -/
def reservedClear (w : Word) : Bool := w.extractLsb' 16 16 == 0 && w.extractLsb' 4 4 == 0

/-- A command word with its operand buffers, read as a command; total, and a word of no row is rejected by name (R52, R58). -/
def decode (c : Command) : Except DecodeError Instr :=
  if selectsRow initRow c.cmd then .ok (.init (ctxvField c.cmd) (keyvField c.cmd) (keyLenField c.cmd) c.key)
  else if selectsRow encRow c.cmd then .ok (.enc c.din)
  else if selectsRow decRow c.cmd then .ok (.dec c.din)
  else if selectsRow deinitRow c.cmd then .ok .deinit
  else if reservedClear c.cmd then .error .strayFields
  else .error .reservedBits

/-- A KEY buffer of zero bytes. -/
def zeroKey : Vector Byte 32 := Vector.replicate 32 0
/-- A DIN buffer of zero bytes. -/
def zeroDin : Vector Byte 16 := Vector.replicate 16 0

/-- OP of each command, the order of the descriptor's function references (R51, R139). -/
def opcode : Instr → BitVec 2
  | .init _ _ _ _ => 0
  | .enc _ => 1
  | .dec _ => 2
  | .deinit => 3

/-- The INIT word: reserved, KEYLEN, reserved, KEYV, CTXV, OP, most significant first (R50, R52). -/
def initWord (ctxv keyv : Bool) (keyLen : Nat) : Word :=
  0#16 ++ BitVec.ofNat 8 keyLen ++ 0#4 ++ BitVec.ofBool keyv ++ BitVec.ofBool ctxv ++ 0#2

/-- A well-formed command as the host issues it (R52, R55); a buffer the command does not read is left zero, as in R61. -/
def encode : Instr → Command
  | .init ctxv keyv keyLen key => ⟨initWord ctxv keyv keyLen, key, zeroDin⟩
  | .enc din => ⟨encRow.pattern, zeroKey, din⟩
  | .dec din => ⟨decRow.pattern, zeroKey, din⟩
  | .deinit => ⟨deinitRow.pattern, zeroKey, zeroDin⟩

/-- The KEY buffer with the listed bytes from byte 0 on, "unlisted bytes ... written as zero" (R61). -/
def keyBuffer (bytes : List Byte) : Vector Byte 32 := Vector.ofFn fun i => bytes.getD i.val 0

/-- R61: `CMD = (n << 8) | 0xC`; `key=null` clears KEYV (bit 3), `ctx=null` clears CTXV (bit 2). -/
def asmInitWord (len : Nat) (keyNull ctxNull : Bool) : Word :=
  (BitVec.ofNat 32 len <<< 8) ||| (if keyNull then 0 else 8) ||| (if ctxNull then 0 else 4)

/-- R61's assembler. -/
def assemble : AsmLine → Command
  | .init len key ctxNull => ⟨asmInitWord len key.isNone ctxNull, keyBuffer (key.getD []), zeroDin⟩
  | .enc block => ⟨0x00000001, zeroKey, block⟩
  | .dec block => ⟨0x00000002, zeroKey, block⟩
  | .deinit => ⟨0x00000003, zeroKey, zeroDin⟩

/-- The command whose word has the low `nbits` bits of `w` (numbered as opcode_table.json numbers them) and zeros above,
its operand buffers zero (log 24). CMD is transported as one 32-bit word, so no byte order enters. -/
def tableCommand (nbits w : Nat) : Command := ⟨BitVec.ofNat 32 (w % 2 ^ nbits), zeroKey, zeroDin⟩

/-- What the decoder reads from a word of the opcode table. -/
def decodeTableWord (nbits w : Nat) : Option Instr :=
  match decode (tableCommand nbits w) with
  | .ok i => some i
  | .error _ => none

end Sys2Proof
end

