-- ==== Sys2Proof/Machine/Operands.lean ====
section
/-! DEFINITION. Byte order and operand forms: bytes and words of a block (R30), LOAD32BE, STORE32BE, LOAD128, STORE128 (R31, R32),
the key halves (R103), and the parameters selected by the key length (R101). -/

namespace Sys2Proof.Machine

/-- Byte `i` of a block, byte 0 most significant (R30, R90). -/
def byteAt (x : Block) (i : Fin 16) : Byte := x.extractLsb' (8 * (15 - i.val)) 8

/-- Word `j` of a block, word 0 most significant (R30, R90). -/
def wordAt (x : Block) (j : Fin 4) : Word := x.extractLsb' (32 * (3 - j.val)) 32

/-- `LOAD32BE(b0, b1, b2, b3)` (R31). -/
def load32be (b0 b1 b2 b3 : Byte) : Word := b0 ++ b1 ++ b2 ++ b3

/-- `STORE32BE(w)` (R31). -/
def store32be (w : Word) : Byte × Byte × Byte × Byte :=
  (w.extractLsb' 24 8, w.extractLsb' 16 8, w.extractLsb' 8 8, w.extractLsb' 0 8)

/-- The block whose four words are given (R30). -/
def blockOfWords (w0 w1 w2 w3 : Word) : Block := w0 ++ w1 ++ w2 ++ w3

/-- The block whose bytes are given (R30), assembled word by word with LOAD32BE (R31, R40). -/
def blockOfBytes (b : Fin 16 → Byte) : Block :=
  blockOfWords (load32be (b 0) (b 1) (b 2) (b 3)) (load32be (b 4) (b 5) (b 6) (b 7))
    (load32be (b 8) (b 9) (b 10) (b 11)) (load32be (b 12) (b 13) (b 14) (b 15))

/-- `LOAD128` of a 16-byte buffer: `X[i] = B[i]` (R32). -/
def load128 (buf : Vector Byte 16) : Block := blockOfBytes fun i => buf[i]

/-- `STORE128` to a 16-byte buffer: byte `i` is `X[i]` (R32). -/
def store128 (x : Block) : Vector Byte 16 := Vector.ofFn fun i => byteAt x i

/-- Slot `i` of a round-key file. The rules index slots 0..16 only (R20), so what a larger index reads is never used. -/
def slot (file : Vector Block 17) (i : Nat) : Block := if h : i < 17 then file[i] else 0

/-- `KL = K[0..16]` (R103). -/
def keyLeft (key : Vector Byte 32) : Block := blockOfBytes fun i => key[i.val]

/-- `KR` is `K[16..keyLen]` padded with zero bytes on the right (R103). -/
def keyRight (key : Vector Byte 32) (keyLen : Nat) : Block :=
  blockOfBytes fun i => if i.val < keyLen - 16 then key[16 + i.val] else 0

/-- What R101 selects by the key length: the round count and the word offsets of CK1, CK2, CK3. -/
structure ScheduleParams where
  rounds : BitVec 5
  off1 : Nat
  off2 : Nat
  off3 : Nat
  deriving DecidableEq, Repr

/-- The table of R101; no row for any other length. -/
def selectParams (keyLen : Nat) : Option ScheduleParams :=
  if keyLen = 16 then some ⟨12, 0, 4, 8⟩
  else if keyLen = 24 then some ⟨14, 4, 8, 0⟩
  else if keyLen = 32 then some ⟨16, 8, 0, 4⟩
  else none

end Sys2Proof.Machine
end

