-- ==== Sys2Proof/Config.lean ====
section
/-! DEFINITION. What the spec leaves open, as constants with no value (free values: log 1, log 5), and the ROM bases of R34.
No constant of this file whose name begins with `free` has a body a proof can see: a statement about one holds whatever it is.
The argument of each is the number of the draw (State.draws). -/

namespace Sys2Proof

/-- Contents of `nr` that reset leaves (R22: unspecified, any value). DESIGN CHOICE, log 1. -/
opaque Config.freeNr : Nat → BitVec 5

/-- Contents of `ek[0..16]` that reset leaves (R22). DESIGN CHOICE, log 1. -/
opaque Config.freeEk : Nat → Vector Block 17

/-- Contents of `dk[0..16]` that reset leaves (R22). DESIGN CHOICE, log 1. -/
opaque Config.freeDk : Nat → Vector Block 17

/-- Contents of `S` that reset (R22) or a block command (R14) leaves. DESIGN CHOICE, log 1 and log 5. -/
opaque Config.freeS : Nat → Block

/-- Contents of `T` that reset (R22) or a block command (R14) leaves. DESIGN CHOICE, log 1 and log 5. -/
opaque Config.freeT : Nat → Block

/-- Contents of `W[0..3]` that reset leaves (R22). DESIGN CHOICE, log 1. -/
opaque Config.freeW : Nat → Vector Block 4

/-- Contents of `KL` that reset leaves (R22). DESIGN CHOICE, log 1. -/
opaque Config.freeKL : Nat → Block

/-- Contents of `KR` that reset leaves (R22). DESIGN CHOICE, log 1. -/
opaque Config.freeKR : Nat → Block

/-- Contents of the `DOUT` buffer before any block command has written it. DESIGN CHOICE, log 1. -/
opaque Config.freeDout : Nat → Vector Byte 16

/-- ROM address of entry 0 of SB1 (R4 ROM_BASE_SB, R34). -/
def Config.romBaseSB : Nat := 0x000

/-- ROM address of constant word `C[0]` (R4 ROM_BASE_C, R34). -/
def Config.romBaseC : Nat := 0x400

end Sys2Proof
end

