-- ==== Sys2Proof/Machine/State.lean ====
section
/-! DEFINITION. The state of one core (spec 10_state) with its host interface, the reasons a step can be refused, and reset. -/

namespace Sys2Proof.Machine

/-- The lifecycle position of the context (R13). -/
inductive Phase where
  | empty
  | ready
  | zeroised
  deriving DecidableEq, Repr

/-- The result code returned with every command (R57, R145); its 2-bit numbers are `statusCode`'s. -/
inductive Status where
  | ok
  | invalidParameter
  | invalidKeyLength
  | outOfResources
  deriving DecidableEq, Repr

/-- What the host gets back from a command (R17): STATUS, and whether DOUT is returned with it (R56: by ENC and DEC only);
the bytes of DOUT are `State.dout`. -/
structure Response where
  status : Status
  doutReturned : Bool
  deriving DecidableEq, Repr

/-- What the host does to the core, one event at a time (R36): issue a command with its operands (R50, R55), or reset (R165). -/
inductive HostEvent where
  | command (c : Command)
  | reset
  deriving DecidableEq, Repr

/-- The state: the context (`nr`, `ek`, `dk`, `phase`: R10 to R13), the working registers (`S`, `T`, `W[0..3]`, `KL`, `KR`: R14,
R15), the output side of the interface (R17), and two fields of the model's own, `pending` (log 3) and `draws` (log 5). -/
structure State where
  /-- Round count (R10). -/
  nr : BitVec 5
  /-- Encryption round keys `ek[0..16]` (R11). -/
  ek : Vector Block 17
  /-- Decryption round keys `dk[0..16]` (R12). -/
  dk : Vector Block 17
  /-- Lifecycle position (R13). -/
  phase : Phase
  /-- `S`, the state of the block transform (R14). -/
  workS : Block
  /-- `T`, the temporary between substitution and diffusion (R14). -/
  workT : Block
  /-- `W[0..3]` (R15). -/
  workW : Vector Block 4
  /-- `KL` (R15). -/
  workKL : Block
  /-- `KR` (R15). -/
  workKR : Block
  /-- The output buffer `DOUT[0..15]`, written by ENC and DEC only (R33, R56). -/
  dout : Vector Byte 16
  /-- The response of the last command, none before the first (log 2). -/
  response : Option Response
  /-- The host's events still to come, first first (log 3). -/
  pending : List HostEvent
  /-- How many free values have been drawn (log 5). -/
  draws : Nat
  deriving DecidableEq, Repr

/-- A step can stop with no fault: "No behaviour of this core is treated as `fault` or `stuck`" (spec 93 part 1; log 22). -/
inductive Fault where
  deriving DecidableEq, Repr

/-- Why the spec gives a command no outcome. All are safe: the model stops where hardware would go on. -/
inductive Refusal where
  /-- Raised by an arm of exec whose instruction has no meaning yet; no arm does. Safe. -/
  | notModelled (mnemonic : String)
  /-- Raised by step: the command word matches no row of R52 (R58; log 8). Safe. -/
  | unassignedCommand (why : DecodeError)
  /-- Raised by ENC and DEC when `phase` is not READY (R127; log 6). Safe. -/
  | contextNotInitialised
  /-- Raised by ENC and DEC when `phase` is READY and `nr` is no round count, the "mismatched `nr`" of R152; no run from reset
  gets there (log 7). Safe. -/
  | mismatchedRoundCount
  deriving DecidableEq, Repr

/-- The core just after a reset that makes draw number `n`: `phase` EMPTY, all else unspecified (R22, R165): free values. -/
def State.fresh (n : Nat) (events : List HostEvent) : State where
  nr := Config.freeNr n
  ek := Config.freeEk n
  dk := Config.freeDk n
  phase := .empty
  workS := Config.freeS n
  workT := Config.freeT n
  workW := Config.freeW n
  workKL := Config.freeKL n
  workKR := Config.freeKR n
  dout := Config.freeDout n
  response := none
  pending := events
  draws := n + 1

/-- The machine right after reset (R22, R165), with no host event to come (log 3) and draw 0 taken for the contents (log 1). -/
def State.reset : State := State.fresh 0 []

end Sys2Proof.Machine
end

