-- ==== Sys2Proof/Machine/Flags.lean ====
section
/-! DEFINITION. The core has no flags or condition codes (R19). What it computes about a command instead is the STATUS code (R57),
INIT's check (R146, R147, R149) and whether `nr` is a round count (R10). -/

namespace Sys2Proof.Machine

/-- The 2-bit numbers of the result codes (R57). -/
def statusCode : Status → BitVec 2
  | .ok => 0
  | .invalidParameter => 1
  | .invalidKeyLength => 2
  | .outOfResources => 3

/-- INIT's two checks, validity before length (R100, R149): the error to raise, or the parameters of the schedule. -/
def initCheck (ctxv keyv : Bool) (keyLen : Nat) : Except Status ScheduleParams :=
  if ctxv = false ∨ keyv = false then .error .invalidParameter
  else match selectParams keyLen with
    | none => .error .invalidKeyLength
    | some p => .ok p

/-- Is `nr` one of 12, 14, 16 (R10, R16 item 1)? -/
def legalRounds (nr : BitVec 5) : Bool := nr == 12 || nr == 14 || nr == 16

end Sys2Proof.Machine
end

