-- ==== Sys2Proof/Machine/Ops.lean ====
section
/-! DEFINITION. The named operations over the registers and the response that the commands share; `raiseError` is the core's only
exception mechanism (R150), and there is no return from it (R151). -/

namespace Sys2Proof.Machine

/-- Complete a command that returns no DOUT (R56): INIT and DEINIT. -/
def respond (st : Status) (s : State) : State := { s with response := some ⟨st, false⟩ }

/-- Complete a block command: STATUS OK and DOUT returned (R56, R128), the 16 bytes of DOUT written whole (R33). -/
def respondBlock (out : Vector Byte 16) (s : State) : State :=
  { s with dout := out, response := some ⟨.ok, true⟩ }

/-- `raise <Error>`: the command ends at once, STATUS is the error's code, and no state is written (R150). Nothing is saved and
control goes nowhere; DOUT is as before the command. -/
def raiseError (e : Status) (s : State) : State := respond e s

/-- Zeroise `W[0..3]`, `KL`, `KR`, `S`, `T` (R108, R136). -/
def zeroiseWork (s : State) : State :=
  { s with workW := Vector.replicate 4 0, workKL := 0, workKR := 0, workS := 0, workT := 0 }

/-- Zeroise `nr` and all 17 slots of `ek` and of `dk` (R136). -/
def zeroiseContext (s : State) : State :=
  { s with nr := 0, ek := Vector.replicate 17 0, dk := Vector.replicate 17 0 }

/-- Leave `S` and `T` unspecified, as R14 has a block command do: two free values, one draw (log 5). -/
def leaveWorkUnspecified (s : State) : State :=
  { s with workS := Config.freeS s.draws, workT := Config.freeT s.draws, draws := s.draws + 1 }

/-- Move the lifecycle (R13, R135). -/
def setPhase (p : Phase) (s : State) : State := { s with phase := p }

/-- Reset, in any phase (R165): EMPTY, every register unspecified, no response yet; the host's events still to come stay (log 20). -/
def resetCore (s : State) : State := State.fresh s.draws s.pending

end Sys2Proof.Machine
end

