-- ==== Sys2Proof/Machine/Tables.lean ====
section
/-! DEFINITION. The ROM of 1072 bytes and its lookups (spec 40_primitive_tables): SB1..SB4 (R67 to R70), the twelve constant words
(R72), `SB` (R66), `CWORD` (R72), `CK` (R73); and the algebraic construction of R71. The contents are supplied by the spec from
general knowledge (spec 93 G1 to G3, G5; UNVERIFIED, log 14). The ROM is a constant, not state (R35, log 16).
A row of a table is 16 entries, first first: entry `0xHL` is byte `L` of row `H`. -/

namespace Sys2Proof.Machine

/-- Contents of SB1 (R67). UNVERIFIED, log 14. -/
def sb1Rows : List Block :=
  [0x637c777bf26b6fc53001672bfed7ab76,
   0xca82c97dfa5947f0add4a2af9ca472c0,
   0xb7fd9326363ff7cc34a5e5f171d83115,
   0x04c723c31896059a071280e2eb27b275,
   0x09832c1a1b6e5aa0523bd6b329e32f84,
   0x53d100ed20fcb15b6acbbe394a4c58cf,
   0xd0efaafb434d338545f9027f503c9fa8,
   0x51a3408f929d38f5bcb6da2110fff3d2,
   0xcd0c13ec5f974417c4a77e3d645d1973,
   0x60814fdc222a908846eeb814de5e0bdb,
   0xe0323a0a4906245cc2d3ac629195e479,
   0xe7c8376d8dd54ea96c56f4ea657aae08,
   0xba78252e1ca6b4c6e8dd741f4bbd8b8a,
   0x703eb5664803f60e613557b986c11d9e,
   0xe1f8981169d98e949b1e87e9ce5528df,
   0x8ca1890dbfe6426841992d0fb054bb16]

/-- Contents of SB2 (R68). UNVERIFIED, log 14. -/
def sb2Rows : List Block :=
  [0xe24e54fc94c24acc620d6a463c4d8bd1,
   0x5efa64cbb497be2bbc772e03d31959c1,
   0x1d06416b55f09969ea9c18ae63dfe7bb,
   0x007366fb964c85e43a0945aa0fee10eb,
   0x2d7ff429accfad918d78c895f92fcecd,
   0x087a88385c832a2847dbb8c793a41253,
   0xff870e3136215848018e377432cae9b1,
   0xb7ab0cd7c4564226079860d9b6b91140,
   0xec208cbda0c984044923f14f501f13dc,
   0xd8c09e57e3c37b653b028f3ee82592e5,
   0x15ddfd17a9bfd49a7ec53967fe769d43,
   0xa7e1d0f568f21b347005a38ad57986a8,
   0x30c6514b1ea627f635d26e2416825fda,
   0xe675a2ef2cb21c9f5d6f800a72449b6c,
   0x900b5b337d5a52f361a1f7b0d63f7c6d,
   0xed14e0a53d22b3f889de711aafbab581]

/-- Contents of SB3 (R69). UNVERIFIED, log 14. -/
def sb3Rows : List Block :=
  [0x52096ad53036a538bf40a39e81f3d7fb,
   0x7ce339829b2fff87348e4344c4dee9cb,
   0x547b9432a6c2233dee4c950b42fac34e,
   0x082ea16628d924b2765ba2496d8bd125,
   0x72f8f66486689816d4a45ccc5d65b692,
   0x6c704850fdedb9da5e154657a78d9d84,
   0x90d8ab008cbcd30af7e45805b8b34506,
   0xd02c1e8fca3f0f02c1afbd0301138a6b,
   0x3a9111414f67dcea97f2cfcef0b4e673,
   0x96ac7422e7ad3585e2f937e81c75df6e,
   0x47f11a711d29c5896fb7620eaa18be1b,
   0xfc563e4bc6d279209adbc0fe78cd5af4,
   0x1fdda8338807c731b11210592780ec5f,
   0x60517fa919b54a0d2de57a9f93c99cef,
   0xa0e03b4dae2af5b0c8ebbb3c83539961,
   0x172b047eba77d626e169146355210c7d]

/-- Contents of SB4 (R70). UNVERIFIED, log 14. -/
def sb4Rows : List Block :=
  [0x3068991b87b921785039dbe17209623c,
   0x3e7e5e8ef1a0cca32a1dfbb6d620c48d,
   0x8165f589cb9d77c657435617d4401a4d,
   0xc0636ce3b7c8646a53aa38980cf49bed,
   0x7f2276afdd3a0b58678806c3350d018b,
   0x8cc2e65f02247593661ee5e254d810ce,
   0x7ae8082c129732abb4270a23dfefcad9,
   0xb8fadc316bd1ad1949bd5196eee4a841,
   0xdaffcd558636be6152f8bb0e8248699a,
   0xe0479e5c044b34157926a7de29ae92d7,
   0x84e9d2ba5df3c5b0bfa43b7144462bfc,
   0xeb6fd5f614fe7c705a7dfd2f188316a5,
   0x911f059574a9c15b4a856d13074f4e45,
   0xb20fc91ca6bcec73907bcf598fa1f92d,
   0xf2b10094379fd02e9c6e283f80f03dd3,
   0x258ab5e742b3c7eaf74c113303a2ac60]

/-- The constant words `C[0..11]`, four to a row (R72, R74: the first 384 bits of the binary fraction of 1/π). UNVERIFIED, log 14. -/
def constRows : List Block :=
  [0x517cc1b727220a94fe13abe8fa9a6ee0,
   0x6db14acc9e21c820ff28b1d5ef5de2b0,
   0xdb92371d2126e9700324977504e8c90e]

/-- The whole ROM in address order, 16 bytes a row (R34). -/
def romRows : List Block := sb1Rows ++ sb2Rows ++ sb3Rows ++ sb4Rows ++ constRows

/-- `MemRead(ROM, a, 1)` (R33, R34). The core reads addresses 0x000..0x42F only (R66, R72), so what a larger one reads is never used. -/
def romByte (a : Nat) : Byte := byteAt (romRows.getD (a / 16) 0) (Fin.ofNat 16 a)

/-- `SB(t, x)`, `t` in 1..4 (R66). -/
def sb (t : Nat) (x : Byte) : Byte := romByte (Config.romBaseSB + 256 * (t - 1) + x.toNat)

/-- `CWORD(j)`, `j` in 0..11: four ROM bytes, most significant first (R72). -/
def cword (j : Nat) : Word :=
  let a := Config.romBaseC + 4 * j
  load32be (romByte a) (romByte (a + 1)) (romByte (a + 2)) (romByte (a + 3))

/-- `CK(off)`: four consecutive constant words (R73). -/
def ck (off : Nat) : Block := blockOfWords (cword off) (cword (off + 1)) (cword (off + 2)) (cword (off + 3))

/-- Multiplication by `z` in GF(2^8) modulo `z^8 + z^4 + z^3 + z + 1` (R71). -/
def gfTimesZ (p : Byte) : Byte := (p <<< 1) ^^^ (if p.getLsbD 7 then 0x1b else 0)

/-- `a` times the polynomial whose coefficients, lowest first, are the booleans given (R71). -/
def gfMulBits (a : Byte) : List Bool → Byte
  | [] => 0
  | b :: bs => (if b then a else 0) ^^^ gfMulBits (gfTimesZ a) bs

/-- Multiplication in GF(2^8) (R71). -/
def gfMul (a b : Byte) : Byte := gfMulBits a ((List.range 8).map fun i => b.getLsbD i)

/-- The power of `p` whose exponent has the given binary digits, lowest first, by squaring: `p^(b + 2 e) = p^b · (p^2)^e` (R71). -/
def gfPowBits (p : Byte) : List Bool → Byte
  | [] => 1
  | b :: bs => gfMul (if b then p else 1) (gfPowBits (gfMul p p) bs)

/-- The `e`-th power in GF(2^8), `e` below 256; `0^e = 0` for positive `e` (R71). -/
def gfPow (p : Byte) (e : Nat) : Byte := gfPowBits p ((List.range 8).map fun i => e.testBit i)

/-- The dot product over GF(2) of two bit vectors: the parity of their common ones (R71). -/
def gfDot (a b : Byte) : Bool := (List.range 8).foldl (fun acc i => acc ^^ ((a &&& b).getLsbD i)) false

/-- A matrix times a bit vector: bit `i` is the dot product of row `i`, a row written with its `b0` column first (R71). -/
def gfMatVec (rows : List Byte) (x : Byte) : Byte :=
  (List.range 8).foldl (fun acc i => acc ||| (BitVec.ofBool (gfDot (rows.getD i 0).reverse x)).setWidth 8 <<< i) 0

/-- The matrix M1 of R71, each row's `b0` column first. UNVERIFIED, log 14. -/
def sbMatrix1 : List Byte :=
  [0b10001111, 0b11000111, 0b11100011, 0b11110001, 0b11111000, 0b01111100, 0b00111110, 0b00011111]

/-- The matrix M2 of R71, each row's `b0` column first. UNVERIFIED, log 14. -/
def sbMatrix2 : List Byte :=
  [0b01011110, 0b00111101, 0b11010111, 0b10011101, 0b00101100, 0b10000001, 0b01011101, 0b11010011]

/-- `M1 · (x^254) XOR 0x63` (R71). -/
def sb1Algebraic (x : Byte) : Byte := gfMatVec sbMatrix1 (gfPow x 254) ^^^ 0x63

/-- `M2 · (x^247) XOR 0xe2` (R71). -/
def sb2Algebraic (x : Byte) : Byte := gfMatVec sbMatrix2 (gfPow x 247) ^^^ 0xe2

end Sys2Proof.Machine
end

