-- ==== Sys2Proof/Machine/Round.lean ====
section
/-! DEFINITION. The round transforms (spec 41_round_transforms): XOR128, SL1, SL2, A, OF, EF, ROL128 on blocks, and the 32-bit word
forms the spec derives of them (R83, R86, R91). The byte-sets of A are supplied by the spec from general knowledge (G4; UNVERIFIED,
log 14). None reads or writes a register (R60). -/

namespace Sys2Proof.Machine

/-- `XOR128` (R80). -/
def xor128 (x y : Block) : Block := x ^^^ y

/-- `SL1`: byte `i` through SB number `(i mod 4) + 1` (R81). -/
def sl1 (x : Block) : Block := blockOfBytes fun i => sb (i.val % 4 + 1) (byteAt x i)

/-- `SL2`: byte `i` through SB number `((i + 2) mod 4) + 1` (R82). -/
def sl2 (x : Block) : Block := blockOfBytes fun i => sb ((i.val + 2) % 4 + 1) (byteAt x i)

/-- The seven input bytes of each output byte of A (R84). UNVERIFIED, log 14. -/
def diffusionSets : List (List (Fin 16)) :=
  [[3, 4, 6, 8, 9, 13, 14],
   [2, 5, 7, 8, 9, 12, 15],
   [1, 4, 6, 10, 11, 12, 15],
   [0, 5, 7, 10, 11, 13, 14],
   [0, 2, 5, 8, 11, 14, 15],
   [1, 3, 4, 9, 10, 14, 15],
   [0, 2, 7, 9, 10, 12, 13],
   [1, 3, 6, 8, 11, 12, 13],
   [0, 1, 4, 7, 10, 13, 15],
   [0, 1, 5, 6, 11, 12, 14],
   [2, 3, 5, 6, 8, 13, 15],
   [2, 3, 4, 7, 9, 12, 14],
   [1, 2, 6, 7, 9, 11, 12],
   [0, 3, 6, 7, 8, 10, 13],
   [0, 3, 4, 5, 9, 11, 14],
   [1, 2, 4, 5, 8, 10, 15]]

/-- Entry `i` of `diffusionSets`. -/
def diffusionSet (i : Fin 16) : List (Fin 16) := diffusionSets.getD i.val []

/-- The matrix `M` of R84, row by row, column 0 first. -/
def diffusionMatrixRows : List (BitVec 16) :=
  [0b0001101011000110,
   0b0010010111001001,
   0b0100101000111001,
   0b1000010100110110,
   0b1010010010010011,
   0b0101100001100011,
   0b1010000101101100,
   0b0101001010011100,
   0b1100100100100101,
   0b1100011000011010,
   0b0011011010000101,
   0b0011100101001010,
   0b0110001101011000,
   0b1001001110100100,
   0b1001110001010010,
   0b0110110010100001]

/-- Entry `i` of `diffusionMatrixRows`. -/
def diffusionMatrixRow (i : Fin 16) : BitVec 16 := diffusionMatrixRows.getD i.val 0

/-- `M[i][j]` (R84). -/
def diffusionMatrix (i j : Fin 16) : Bool := (diffusionMatrixRow i).getMsbD j.val

/-- The diffusion layer A: each output byte the XOR of its seven input bytes (R84). -/
def diffuse (x : Block) : Block := blockOfBytes fun i => (diffusionSet i).foldl (fun acc j => acc ^^^ byteAt x j) 0

/-- `OF(D, RK) = A(SL1(D XOR RK))` (R87). -/
def oddRound (d rk : Block) : Block := diffuse (sl1 (xor128 d rk))

/-- `EF(D, RK) = A(SL2(D XOR RK))` (R88). -/
def evenRound (d rk : Block) : Block := diffuse (sl2 (xor128 d rk))

/-- `ROL128(X, n)`, `n` in 0..127, left toward byte 0 (R90; log 15). -/
def rol128 (x : Block) (n : Nat) : Block := if n = 0 then x else (x <<< n) ||| (x >>> (128 - n))

/-- SL1 on one word (R83). -/
def sl1Word (w : Word) : Word :=
  load32be (sb 1 (w.extractLsb' 24 8)) (sb 2 (w.extractLsb' 16 8)) (sb 3 (w.extractLsb' 8 8)) (sb 4 (w.extractLsb' 0 8))

/-- SL2 on one word (R83). -/
def sl2Word (w : Word) : Word :=
  load32be (sb 3 (w.extractLsb' 24 8)) (sb 4 (w.extractLsb' 16 8)) (sb 1 (w.extractLsb' 8 8)) (sb 2 (w.extractLsb' 0 8))

/-- `P1`: swap the bytes in each half (R86). -/
def p1 (w : Word) : Word := ((w <<< 8) &&& 0xff00ff00) ||| ((w >>> 8) &&& 0x00ff00ff)

/-- `P2`: rotate by 16 (R86). -/
def p2 (w : Word) : Word := (w <<< 16) ||| (w >>> 16)

/-- `P3`: reverse the four bytes (R86). -/
def p3 (w : Word) : Word :=
  load32be (w.extractLsb' 0 8) (w.extractLsb' 8 8) (w.extractLsb' 16 8) (w.extractLsb' 24 8)

/-- A on four words, as a 32-bit datapath computes it (R86). -/
def diffuseWords (x0 x1 x2 x3 : Word) : Block :=
  blockOfWords
    (p3 x0 ^^^ x1 ^^^ p2 x1 ^^^ x2 ^^^ p1 x2 ^^^ p1 x3 ^^^ p2 x3)
    (x0 ^^^ p2 x0 ^^^ p1 x1 ^^^ x2 ^^^ p3 x2 ^^^ p2 x3 ^^^ p3 x3)
    (x0 ^^^ p1 x0 ^^^ x1 ^^^ p3 x1 ^^^ p2 x2 ^^^ p1 x3 ^^^ p3 x3)
    (p1 x0 ^^^ p2 x0 ^^^ p2 x1 ^^^ p3 x1 ^^^ p1 x2 ^^^ p3 x2 ^^^ x3)

/-- Word `i` of `ROL128(X, n)` from the words of `X` (R91). -/
def rolWord (x : Block) (n : Nat) (i : Fin 4) : Word :=
  let q := n / 32
  let r := n % 32
  if r = 0 then wordAt x (Fin.ofNat 4 (i.val + q))
  else (wordAt x (Fin.ofNat 4 (i.val + q)) <<< r) ||| (wordAt x (Fin.ofNat 4 (i.val + q + 1)) >>> (32 - r))

end Sys2Proof.Machine
end

