-- ==== Sys2Proof/Machine/BlockTransform.lean ====
section
/-! DEFINITION. The common datapath CRYPT and the commands ENC and DEC (spec 43_block_transform). -/

namespace Sys2Proof.Machine

/-- `S` after the first `i` full rounds: odd rounds OF, even rounds EF, round `i` with slot `i - 1` (R120). -/
def fullRounds (rk : Vector Block 17) (x : Block) : Nat → Block
  | 0 => x
  | i + 1 =>
    if (i + 1) % 2 = 1 then oddRound (fullRounds rk x i) (slot rk i) else evenRound (fullRounds rk x i) (slot rk i)

/-- The abbreviated final round, without A (R120, R129). -/
def finalRound (rk : Vector Block 17) (n : Nat) (x : Block) : Block :=
  xor128 (sl2 (xor128 x (slot rk (n - 1)))) (slot rk n)

/-- `CRYPT(RK, X)` with round count `n`, between LOAD128 and STORE128 (R120). -/
def crypt (rk : Vector Block 17) (n : Nat) (x : Block) : Block := finalRound rk n (fullRounds rk x (n - 1))

/-- `S <- LOAD128(DIN)` (R120, R32). -/
def loadInput (din : Vector Byte 16) (s : State) : State := { s with workS := load128 din }

/-- `S <- CRYPT(RK, S)` (R120). -/
def cryptInput (rk : Vector Block 17) (s : State) : State := { s with workS := crypt rk s.nr.toNat s.workS }

/-- `DOUT <- STORE128(S)`, STATUS OK (R120, R32, R128). -/
def storeOutput (s : State) : State := respondBlock (store128 s.workS) s

/-- A block command with round-key file `rk` (R121, R122): refused outside READY (R127, log 6) and with an `nr` that is no round
count (R152, log 7). It reads all of DIN before it writes DOUT (R39). -/
def blockCommand (rk : Vector Block 17) (din : Vector Byte 16) (s : State) : Host.Outcome State Fault Refusal :=
  if s.phase ≠ .ready then .refused .contextNotInitialised
  else if legalRounds s.nr = false then .refused .mismatchedRoundCount
  else .next (leaveWorkUnspecified (storeOutput (cryptInput rk (loadInput din s))))

/-- ENC: `DOUT <- CRYPT(ek, DIN)` (R121). -/
def execEnc (din : Vector Byte 16) (s : State) : Host.Outcome State Fault Refusal := blockCommand s.ek din s

/-- DEC: `DOUT <- CRYPT(dk, DIN)` (R122). -/
def execDec (din : Vector Byte 16) (s : State) : Host.Outcome State Fault Refusal := blockCommand s.dk din s

end Sys2Proof.Machine
end

