-- ==== Sys2Proof/Machine/KeySchedule.lean ====
section
/-! DEFINITION. The key schedule and the command INIT (spec 42_key_schedule). -/

namespace Sys2Proof.Machine

/-- The intermediates W0..W3 (R104). -/
def intermediates (kl kr : Block) (p : ScheduleParams) : Vector Block 4 :=
  let w0 := kl
  let w1 := xor128 (oddRound w0 (ck p.off1)) kr
  let w2 := xor128 (evenRound w1 (ck p.off2)) w0
  let w3 := xor128 (oddRound w2 (ck p.off3)) w1
  #v[w0, w1, w2, w3]

/-- The rotation `n(r)` of round `r` in 1..17, in bits left (R105). -/
def rotationAmount (r : Nat) : Nat :=
  if r ≤ 4 then 109 else if r ≤ 8 then 97 else if r ≤ 12 then 61 else if r ≤ 16 then 31 else 19

/-- The round key of round `r` in 1..17 (R105). -/
def roundKey (w : Vector Block 4) (r : Nat) : Block :=
  xor128 (rol128 (w[r % 4]'(Nat.mod_lt r (by decide))) (rotationAmount r)) (w[(r - 1) % 4]'(Nat.mod_lt (r - 1) (by decide)))

/-- All 17 encryption round keys, slot `r - 1` from round `r`, whatever the key length (R105, R106; log 10). -/
def encryptionKeys (w : Vector Block 4) : Vector Block 17 := Vector.ofFn fun i => roundKey w (i.val + 1)

/-- The decryption round keys over the old file: slots above `n` are not written (R107, R12, R110; log 11). -/
def decryptionKeys (ek : Vector Block 17) (n : Nat) (old : Vector Block 17) : Vector Block 17 :=
  Vector.ofFn fun i =>
    if i.val = 0 then slot ek n
    else if i.val < n then diffuse (slot ek (n - i.val))
    else if i.val = n then slot ek 0
    else slot old i.val

/-- Step 2: form KL and KR (R103). -/
def formHalves (key : Vector Byte 32) (keyLen : Nat) (s : State) : State :=
  { s with workKL := keyLeft key, workKR := keyRight key keyLen }

/-- Step 3: form W0..W3 from KL and KR (R104). -/
def formIntermediates (p : ScheduleParams) (s : State) : State :=
  { s with workW := intermediates s.workKL s.workKR p }

/-- Step 4: derive `ek[0..16]` from W0..W3 (R105, R106). -/
def deriveEncryptionKeys (s : State) : State := { s with ek := encryptionKeys s.workW }

/-- Set the round count (R101). -/
def setRounds (p : ScheduleParams) (s : State) : State := { s with nr := p.rounds }

/-- Step 5: derive `dk[0..nr]` from `ek` (R107). -/
def deriveDecryptionKeys (s : State) : State := { s with dk := decryptionKeys s.ek s.nr.toNat s.dk }

/-- The whole of INIT once its checks have passed, in the order of R100's pseudocode. -/
def expandKey (p : ScheduleParams) (key : Vector Byte 32) (keyLen : Nat) (s : State) : State :=
  let halves := formHalves key keyLen s
  let words := formIntermediates p halves
  let encKeys := deriveEncryptionKeys words
  let rounds := setRounds p encKeys
  let decKeys := deriveDecryptionKeys rounds
  respond .ok (setPhase .ready (zeroiseWork decKeys))

/-- INIT (R100). A failed check raises its error and writes nothing (R109, R150). -/
def execInit (ctxv keyv : Bool) (keyLen : Nat) (key : Vector Byte 32) (s : State) : Host.Outcome State Fault Refusal :=
  match initCheck ctxv keyv keyLen with
  | .error e => .next (raiseError e s)
  | .ok p => .next (expandKey p key keyLen s)

end Sys2Proof.Machine
end

