-- ==== Sys2Proof/Machine/Lifecycle.lean ====
section
/-! DEFINITION. The command DEINIT (spec 44_context_lifecycle). -/

namespace Sys2Proof.Machine

/-- DEINIT: zeroise the context and the working registers, phase ZEROISED, STATUS OK, in every phase (R136, R137). -/
def execDeinit (s : State) : Host.Outcome State Fault Refusal :=
  .next (respond .ok (setPhase .zeroised (zeroiseWork (zeroiseContext s))))

end Sys2Proof.Machine
end

