-- ==== Sys2Proof/Machine/Dispatch.lean ====
section
/-! DEFINITION. The meaning of each command: one arm per constructor of Instr. -/

namespace Sys2Proof.Machine

def exec (i : Instr) (s : State) : Host.Outcome State Fault Refusal :=
  match i with
  | .init ctxv keyv keyLen key => Sys2Proof.Machine.execInit ctxv keyv keyLen key s
  | .enc din => Sys2Proof.Machine.execEnc din s
  | .dec din => Sys2Proof.Machine.execDec din s
  | .deinit => Sys2Proof.Machine.execDeinit s

end Sys2Proof.Machine
end

