-- ==== Sys2Proof/Machine/Step.lean ====
section
/-! DEFINITION. One step: the core takes the host's next event and carries it out whole (R18, R36). -/

namespace Sys2Proof.Machine

/-- One step. With no event to come the core is idle and nothing changes (R158); a reset is carried out between commands (R165);
a command is decoded (R52), refused where its word matches no row (R58), and else executed, its event taken off the list (R36). -/
def step (s : State) : Host.Outcome State Fault Refusal :=
  match s.pending with
  | [] => .next s
  | .reset :: rest => .next (resetCore { s with pending := rest })
  | .command c :: rest =>
    match decode c with
    | .error e => .refused (.unassignedCommand e)
    | .ok i => exec i { s with pending := rest }

/-- The state with a command of the given table word as the host's next event, its buffers zero (log 24); all else as it was. -/
def State.withFetchWord (s : State) (nbits w : Nat) : State :=
  { s with pending := .command (tableCommand nbits w) :: s.pending }

end Sys2Proof.Machine
end

