-- ==== Sys2Proof/Safety.lean ====
section
/-! DEFINITION. What a good state is, in the terms the statements use: the invariant of an initialised context (R16), the zero raw
view (R136), and the codes a response may carry (R148). -/

namespace Sys2Proof.Machine

/-- `dk` is the reversed, diffused image of `ek` for round count `n`: invariant 2 of R16. -/
def MirroredKeys (ek dk : Vector Block 17) (n : Nat) : Prop :=
  slot dk 0 = slot ek n ∧ slot dk n = slot ek 0 ∧ ∀ i, 1 ≤ i → i < n → slot dk i = diffuse (slot ek (n - i))

/-- `W[0..3]`, `KL` and `KR` are zero (R15, R108). -/
def State.ScheduleScratchZero (s : State) : Prop :=
  s.workW = Vector.replicate 4 0 ∧ s.workKL = 0 ∧ s.workKR = 0

/-- The raw view is zero: every bit of `nr`, `ek`, `dk`, `W`, `KL`, `KR`, `S`, `T` (R136, R159). -/
def State.RawZero (s : State) : Prop :=
  s.nr = 0 ∧ s.ek = Vector.replicate 17 0 ∧ s.dk = Vector.replicate 17 0 ∧ s.ScheduleScratchZero ∧ s.workS = 0 ∧ s.workT = 0

/-- A READY context is one an INIT has populated (R16). -/
def State.ReadyCoherent (s : State) : Prop :=
  s.phase = .ready → legalRounds s.nr = true ∧ MirroredKeys s.ek s.dk s.nr.toNat ∧ s.ScheduleScratchZero

/-- A ZEROISED context shows zero in the raw view (R136). -/
def State.ZeroisedClean (s : State) : Prop := s.phase = .zeroised → s.RawZero

/-- No response carries OutOfResources (R148), and DOUT is returned only with OK (R56, R128). -/
def State.ResponseLegal (s : State) : Prop :=
  ∀ r, s.response = some r → r.status ≠ .outOfResources ∧ (r.doutReturned = true → r.status = .ok)

/-- The invariant of the machine. -/
def State.Inv (s : State) : Prop := s.ReadyCoherent ∧ s.ZeroisedClean ∧ s.ResponseLegal

/-- The three legal key lengths in bytes (R4 KEYLEN_SET, R53). -/
def LegalKeyLen (keyLen : Nat) : Prop := keyLen = 16 ∨ keyLen = 24 ∨ keyLen = 32

/-- A context a block command runs on: READY (R127), with a round count in `nr`, which `State.ReadyCoherent` gives every READY
state a run reaches (R16 item 1). -/
def State.BlockReady (s : State) : Prop := s.phase = .ready ∧ legalRounds s.nr = true

/-- The same context: `nr`, `ek`, `dk`, `phase`. -/
def State.SameContext (s t : State) : Prop := s.nr = t.nr ∧ s.ek = t.ek ∧ s.dk = t.dk ∧ s.phase = t.phase

/-- Two states with the same context and interface: they may differ in the working registers and in `draws` only (R14, R15). -/
def State.SameButWork (s t : State) : Prop :=
  s.SameContext t ∧ s.dout = t.dout ∧ s.response = t.response ∧ s.pending = t.pending

end Sys2Proof.Machine
end

