-- ==== Sys2Proof/Certificates/Slice0/Obligations.lean ====
section
/-! DEFINITION. The statements for the provers, from the numbered rules of spec/. Each docstring names its rules. -/

open Sys2Proof Sys2Proof.Machine

/-! ## Encoding (30_encoding) -/

/-- Some words of R52, with any operand buffers: the three legal INITs, an INIT with each reference null, the longest KEYLEN, ENC,
DEC, DEINIT, and words of no row (R58). Expected results: the decoder table of spec 95 section 4.6. -/
def Obligations.TableWordsDecode : Prop :=
  ∀ (key : Vector Byte 32) (din : Vector Byte 16),
    decode ⟨0x0000100C, key, din⟩ = .ok (.init true true 16 key) ∧
    decode ⟨0x0000180C, key, din⟩ = .ok (.init true true 24 key) ∧
    decode ⟨0x0000200C, key, din⟩ = .ok (.init true true 32 key) ∧
    decode ⟨0x0000FF0C, key, din⟩ = .ok (.init true true 255 key) ∧
    decode ⟨0x00001004, key, din⟩ = .ok (.init true false 16 key) ∧
    decode ⟨0x00001008, key, din⟩ = .ok (.init false true 16 key) ∧
    decode ⟨0x00000001, key, din⟩ = .ok (.enc din) ∧
    decode ⟨0x00000002, key, din⟩ = .ok (.dec din) ∧
    decode ⟨0x00000003, key, din⟩ = .ok .deinit ∧
    decode ⟨0x00001001, key, din⟩ = .error .strayFields ∧
    decode ⟨0x00000010, key, din⟩ = .error .reservedBits ∧
    decode ⟨0x0001100C, key, din⟩ = .error .reservedBits

/-- R52 and R53, for every word: which words select which row, and where the fields of INIT stand. A word of none of the four
patterns is rejected. -/
def Obligations.DecodeFollowsPatterns : Prop :=
  ∀ c : Command,
    (c.cmd &&& 0xFFFF00F3 = 0x00000000 →
      decode c = .ok (.init (c.cmd.getLsbD 2) (c.cmd.getLsbD 3) (c.cmd.extractLsb' 8 8).toNat c.key)) ∧
    (c.cmd &&& 0xFFFFFFFF = 0x00000001 → decode c = .ok (.enc c.din)) ∧
    (c.cmd &&& 0xFFFFFFFF = 0x00000002 → decode c = .ok (.dec c.din)) ∧
    (c.cmd &&& 0xFFFFFFFF = 0x00000003 → decode c = .ok .deinit) ∧
    (c.cmd &&& 0xFFFF00F3 ≠ 0x00000000 → c.cmd ≠ 0x00000001 → c.cmd ≠ 0x00000002 → c.cmd ≠ 0x00000003 →
      ∃ e, decode c = .error e)

/-- Decoding an encoded well-formed command gives it back, with every operand at every value the encoding admits. -/
def Obligations.DecodeOfEncode : Prop :=
  ∀ i : Instr, i.wellFormed = true → decode (encode i) = .ok i

/-- The other direction: a word that decodes is the word its command is encoded to, so no bit of it is dropped; and what the
decoder gives is well-formed. -/
def Obligations.DecodedWordIsEncodedWord : Prop :=
  ∀ (c : Command) (i : Instr), decode c = .ok i → i.wellFormed = true ∧ (encode i).cmd = c.cmd

/-- No word selects two rows of the table. -/
def Obligations.RowsDoNotOverlap : Prop :=
  ∀ (w : Word) (r r' : OpRow), r ∈ opRows → r' ∈ opRows → selectsRow r w = true → selectsRow r' w = true → r = r'

/-- R58: the words of no row are those with a reserved bit set, or with OP in 1..3 and any of bits 15..2 set; a step refuses each. -/
def Obligations.UnassignedWordsRefused : Prop :=
  ∀ c : Command,
    ((∀ r ∈ opRows, selectsRow r c.cmd = false) ↔
      (c.cmd.extractLsb' 16 16 ≠ 0 ∨ c.cmd.extractLsb' 4 4 ≠ 0 ∨ (c.cmd.extractLsb' 0 2 ≠ 0 ∧ c.cmd.extractLsb' 2 14 ≠ 0))) ∧
    ((∀ r ∈ opRows, selectsRow r c.cmd = false) →
      ∀ (s : State) (rest : List HostEvent), s.pending = .command c :: rest →
        ∃ e, step s = .refused (.unassignedCommand e))

/-- R61: what each assembler line's word and buffers decode to, listed key bytes first and zeros after them. -/
def Obligations.AssembledLinesDecode : Prop :=
  (∀ (len : Nat) (bytes : List Byte) (ctxNull : Bool), len < 256 →
    decode (assemble (.init len (some bytes) ctxNull)) = .ok (.init (!ctxNull) true len (keyBuffer bytes)) ∧
    decode (assemble (.init len none ctxNull)) = .ok (.init (!ctxNull) false len (keyBuffer [])) ∧
    (assemble (.init len (some bytes) false)).cmd = (BitVec.ofNat 32 len <<< 8) ||| 0xC ∧
    (assemble (.init len none false)).cmd = (BitVec.ofNat 32 len <<< 8) ||| 0x4 ∧
    (assemble (.init len (some bytes) true)).cmd = (BitVec.ofNat 32 len <<< 8) ||| 0x8 ∧
    (∀ i : Fin 32, (keyBuffer bytes)[i] = if h : i.val < bytes.length then bytes[i.val] else 0)) ∧
  (∀ block : Vector Byte 16,
    decode (assemble (.enc block)) = .ok (.enc block) ∧ (assemble (.enc block)).cmd = 0x00000001 ∧
    decode (assemble (.dec block)) = .ok (.dec block) ∧ (assemble (.dec block)).cmd = 0x00000002) ∧
  decode (assemble .deinit) = .ok .deinit ∧ (assemble .deinit).cmd = 0x00000003

/-! ## The step (R18, R36, R165) -/

/-- When the host's next event is a command whose word decodes to `i`, the step is exec of `i`, the event taken off the list. -/
def Obligations.StepRunsDecodedCommand : Prop :=
  ∀ (s : State) (c : Command) (rest : List HostEvent) (i : Instr),
    s.pending = .command c :: rest → decode c = .ok i → step s = exec i { s with pending := rest }

/-- With no event to come the step changes nothing (R158: the core is idle between commands); a reset event leaves phase EMPTY (R165),
no response, and the events after it. That both are steps is the model's choice (log 3, log 20). -/
def Obligations.IdleAndResetSteps : Prop :=
  (∀ s : State, s.pending = [] → step s = .next s) ∧
  (∀ (s : State) (rest : List HostEvent), s.pending = .reset :: rest →
    ∃ t, step s = .next t ∧ t.phase = .empty ∧ t.response = none ∧ t.pending = rest)

/-- Events are carried out one at a time, in the order the host issues them (R36): a step that answers a next state has taken the
first one and no other. -/
def Obligations.EventsTakenInOrder : Prop :=
  ∀ (s t : State) (e : HostEvent) (rest : List HostEvent),
    s.pending = e :: rest → step s = .next t → t.pending = rest

/-- Which steps are refused, and that all others answer a next state: a command is refused exactly when its word matches no row (R58)
or it is a block command on a context that is not initialised or whose `nr` is no round count (R127, R152; log 7). -/
def Obligations.StepRefusedExactly : Prop :=
  ∀ s : State,
    ((∃ r, step s = .refused r) ↔
      ∃ c rest, s.pending = .command c :: rest ∧
        ((∃ e, decode c = .error e) ∨
          ((∃ din, decode c = .ok (.enc din) ∨ decode c = .ok (.dec din)) ∧ ¬ s.BlockReady))) ∧
    ((¬ ∃ r, step s = .refused r) → ∃ t, step s = .next t)

/-- What reset leaves (R22, R165, R166): phase EMPTY, at the start and after a reset event in any state, so block commands are refused
until an INIT. That no response and no host event stand yet, and that a reset is an event, is the model's choice (log 2, 3, 20). -/
def Obligations.ResetLeavesEmpty : Prop :=
  State.reset.phase = .empty ∧ State.reset.response = none ∧ State.reset.pending = [] ∧
  (∀ (s : State) (rest : List HostEvent), s.pending = .reset :: rest →
    ∃ t, step s = .next t ∧ t.phase = .empty ∧
      ∀ din, exec (.enc din) t = .refused .contextNotInitialised ∧ exec (.dec din) t = .refused .contextNotInitialised)

/-! ## Byte order (20_memory) -/

/-- R30: the bytes of word `j` are bytes `4 j` to `4 j + 3` of the block, most significant first. -/
def Obligations.WordsAreBigEndianBytes : Prop :=
  ∀ (x : Block) (j : Fin 4),
    (wordAt x j).extractLsb' 24 8 = byteAt x (Fin.ofNat 16 (4 * j.val)) ∧
    (wordAt x j).extractLsb' 16 8 = byteAt x (Fin.ofNat 16 (4 * j.val + 1)) ∧
    (wordAt x j).extractLsb' 8 8 = byteAt x (Fin.ofNat 16 (4 * j.val + 2)) ∧
    (wordAt x j).extractLsb' 0 8 = byteAt x (Fin.ofNat 16 (4 * j.val + 3))

/-- R31: LOAD32BE as the weighted sum, STORE32BE as the four slices, each the other's inverse. -/
def Obligations.WordLoadStoreInverse : Prop :=
  (∀ b0 b1 b2 b3 : Byte,
    (load32be b0 b1 b2 b3).toNat = b0.toNat * 2 ^ 24 + b1.toNat * 2 ^ 16 + b2.toNat * 2 ^ 8 + b3.toNat ∧
    store32be (load32be b0 b1 b2 b3) = (b0, b1, b2, b3)) ∧
  (∀ w : Word,
    store32be w = (w.extractLsb' 24 8, w.extractLsb' 16 8, w.extractLsb' 8 8, w.extractLsb' 0 8) ∧
    load32be (store32be w).1 (store32be w).2.1 (store32be w).2.2.1 (store32be w).2.2.2 = w)

/-- R32: LOAD128 and STORE128 byte by byte and word by word; a block loaded from a stored buffer is the block, and the other way. -/
def Obligations.BlockLoadStoreInverse : Prop :=
  (∀ (b : Vector Byte 16) (i : Fin 16), byteAt (load128 b) i = b[i]) ∧
  (∀ (b : Vector Byte 16) (j : Fin 4), wordAt (load128 b) j =
    load32be (b[Fin.ofNat 16 (4 * j.val)]) (b[Fin.ofNat 16 (4 * j.val + 1)]) (b[Fin.ofNat 16 (4 * j.val + 2)])
      (b[Fin.ofNat 16 (4 * j.val + 3)])) ∧
  (∀ (x : Block) (i : Fin 16), (store128 x)[i] = byteAt x i) ∧
  (∀ (x : Block) (j : Fin 4), store32be (wordAt x j) =
    ((store128 x)[Fin.ofNat 16 (4 * j.val)], (store128 x)[Fin.ofNat 16 (4 * j.val + 1)],
      (store128 x)[Fin.ofNat 16 (4 * j.val + 2)], (store128 x)[Fin.ofNat 16 (4 * j.val + 3)])) ∧
  (∀ b : Vector Byte 16, store128 (load128 b) = b) ∧
  (∀ x : Block, load128 (store128 x) = x)

/-! ## Tables (40_primitive_tables) -/

/-- R65: each table is a permutation of the 256 bytes; SB3 is the inverse of SB1 and SB4 of SB2, on both sides. -/
def Obligations.SboxesInvertEachOther : Prop :=
  (∀ t : Nat, 1 ≤ t → t ≤ 4 → Function.Bijective (sb t)) ∧
  (∀ b : Byte, sb 3 (sb 1 b) = b ∧ sb 1 (sb 3 b) = b ∧ sb 4 (sb 2 b) = b ∧ sb 2 (sb 4 b) = b)

/-- R66: the lookup is one ROM byte at `256 (t - 1) + x`, with the corner entries of the rule. -/
def Obligations.SboxLookupReadsRom : Prop :=
  (∀ (t : Nat) (x : Byte), 1 ≤ t → t ≤ 4 → sb t x = romByte (256 * (t - 1) + x.toNat)) ∧
  sb 1 0x00 = 0x63 ∧ sb 1 0xff = 0x16 ∧ sb 2 0x00 = 0xe2 ∧ sb 2 0xff = 0x81 ∧
  sb 3 0x00 = 0x52 ∧ sb 3 0xff = 0x7d ∧ sb 4 0x00 = 0x30 ∧ sb 4 0xff = 0x60 ∧
  sb 1 0x53 = 0xed ∧ sb 3 0xed = 0x53

/-- R71: the tables of SB1 and SB2 agree with the algebraic construction at every index. -/
def Obligations.SboxesAreAlgebraic : Prop :=
  ∀ x : Byte, sb 1 x = sb1Algebraic x ∧ sb 2 x = sb2Algebraic x

/-- R72 and R73: each constant word is four ROM bytes big-endian at `0x400 + 4 j`, the twelve values, and the three blocks. -/
def Obligations.ConstantsReadRom : Prop :=
  (∀ j : Nat, cword j =
    load32be (romByte (0x400 + 4 * j)) (romByte (0x400 + 4 * j + 1)) (romByte (0x400 + 4 * j + 2)) (romByte (0x400 + 4 * j + 3))) ∧
  (List.range 12).map cword = [0x517cc1b7, 0x27220a94, 0xfe13abe8, 0xfa9a6ee0, 0x6db14acc, 0x9e21c820, 0xff28b1d5, 0xef5de2b0,
    0xdb92371d, 0x2126e970, 0x03249775, 0x04e8c90e] ∧
  (∀ off : Nat, off = 0 ∨ off = 4 ∨ off = 8 →
    ck off = blockOfWords (cword off) (cword (off + 1)) (cword (off + 2)) (cword (off + 3)) ∧
    ck off = blockOfBytes (fun i => romByte (0x400 + 4 * off + i.val))) ∧
  ck 0 = 0x517cc1b727220a94fe13abe8fa9a6ee0 ∧ ck 4 = 0x6db14acc9e21c820ff28b1d5ef5de2b0 ∧
  ck 8 = 0xdb92371d2126e9700324977504e8c90e

/-! ## Round transforms (41_round_transforms) -/

/-- R80: XOR128 is the exclusive or byte by byte, word by word and bit by bit, with the corner cases and the worked example. -/
def Obligations.XorIsBytewise : Prop :=
  (∀ (x y : Block) (i : Fin 16), byteAt (xor128 x y) i = byteAt x i ^^^ byteAt y i) ∧
  (∀ (x y : Block) (j : Fin 4), wordAt (xor128 x y) j = wordAt x j ^^^ wordAt y j) ∧
  (∀ (x y : Block) (k : Nat), (xor128 x y).getLsbD k = (x.getLsbD k ^^ y.getLsbD k)) ∧
  (∀ x : Block, xor128 x x = 0 ∧ xor128 x 0 = x) ∧
  xor128 0x00112233445566778899aabbccddeeff 0xd415a75c794b85c5e0d2a0b3cb793bf6 = 0xd404856f3d1ee3b2684b0a0807a4d509

/-- R81 and R82: which table each byte goes through in SL1 and SL2, with the corner cases and the worked examples. -/
def Obligations.SubstitutionLayerBytes : Prop :=
  (∀ (x : Block) (i : Fin 16), byteAt (sl1 x) i = sb (i.val % 4 + 1) (byteAt x i)) ∧
  (∀ (x : Block) (i : Fin 16), byteAt (sl2 x) i = sb ((i.val + 2) % 4 + 1) (byteAt x i)) ∧
  sl1 0 = 0x63e2523063e2523063e2523063e25230 ∧
  sl1 0xffffffffffffffffffffffffffffffff = 0x16817d6016817d6016817d6016817d60 ∧
  sl1 0x000102030405060708090a0b0c0d0e0f = 0x634e6a1bf2c2a578300da3e1fe4dd73c ∧
  sl2 0 = 0x523063e2523063e2523063e2523063e2 ∧
  sl2 0xffffffffffffffffffffffffffffffff = 0x7d6016817d6016817d6016817d601681 ∧
  sl2 0x000102030405060708090a0b0c0d0e0f = 0x526877fc30b96fccbf3967468109abd1

/-- R83: on words, word `j` of each layer's output comes from word `j` of its input, by one pattern. -/
def Obligations.SubstitutionLayerWords : Prop :=
  ∀ (x : Block) (j : Fin 4), wordAt (sl1 x) j = sl1Word (wordAt x j) ∧ wordAt (sl2 x) j = sl2Word (wordAt x j)

/-- R89: SL1 and SL2 invert each other on every block. -/
def Obligations.SubstitutionLayersInverse : Prop :=
  ∀ x : Block, sl2 (sl1 x) = x ∧ sl1 (sl2 x) = x

/-- R84: every output byte of A is the exclusive or of the input bytes its row of `M` selects; the byte-sets and the matrix are the
same table; the corner cases and the worked example. -/
def Obligations.DiffusionFollowsMatrix : Prop :=
  (∀ (x : Block) (i : Fin 16), byteAt (diffuse x) i =
    (List.finRange 16).foldl (fun acc j => if diffusionMatrix i j then acc ^^^ byteAt x j else acc) 0) ∧
  (∀ i j : Fin 16, j ∈ diffusionSet i ↔ diffusionMatrix i j = true) ∧
  diffuse 0 = 0 ∧
  (∀ v : Byte, diffuse (blockOfBytes fun _ => v) = blockOfBytes fun _ => v) ∧
  diffuse 0x01000000000000000000000000000000 = 0x00000001010001000101000000010100 ∧
  diffuse 0x00112233445566778899aabbccddeeff = 0x3322110055447766aabb8899ccddeeff

/-- R85: A is an involution, every row of `M` has seven ones, `M` is symmetric, and A is linear. -/
def Obligations.DiffusionIsLinearInvolution : Prop :=
  (∀ x : Block, diffuse (diffuse x) = x) ∧
  (∀ i : Fin 16, ((List.finRange 16).filter fun j => diffusionMatrix i j).length = 7) ∧
  (∀ i j : Fin 16, diffusionMatrix i j = diffusionMatrix j i) ∧
  (∀ x y : Block, diffuse (xor128 x y) = xor128 (diffuse x) (diffuse y))

/-- R86: the three byte permutations, both ways the rule writes them, and A on 32-bit words is A. -/
def Obligations.DiffusionOnWords : Prop :=
  (∀ b0 b1 b2 b3 : Byte,
    p1 (load32be b0 b1 b2 b3) = load32be b1 b0 b3 b2 ∧ p2 (load32be b0 b1 b2 b3) = load32be b2 b3 b0 b1 ∧
    p3 (load32be b0 b1 b2 b3) = load32be b3 b2 b1 b0) ∧
  (∀ w : Word, p1 w = ((w <<< 8) &&& 0xff00ff00) ||| ((w >>> 8) &&& 0x00ff00ff) ∧ p2 w = (w <<< 16) ||| (w >>> 16)) ∧
  (∀ x : Block, diffuse x = diffuseWords (wordAt x 0) (wordAt x 1) (wordAt x 2) (wordAt x 3)) ∧
  diffuseWords 0x00112233 0x44556677 0x8899aabb 0xccddeeff = blockOfWords 0x33221100 0x55447766 0xaabb8899 0xccddeeff

/-- R87 and R88: the odd and the even round function, their corner cases and worked examples. -/
def Obligations.RoundFunctions : Prop :=
  (∀ d rk : Block, oddRound d rk = diffuse (sl1 (xor128 d rk)) ∧ evenRound d rk = diffuse (sl2 (xor128 d rk))) ∧
  oddRound 0 0 = 0x3052e263e2633052523063e263e25230 ∧
  oddRound 0x00112233445566778899aabbccddeeff 0xd415a75c794b85c5e0d2a0b3cb793bf6 = 0x7fc7f12befd0a0791de87fa96b469f52 ∧
  evenRound 0 0 = 0xe26330523052e26363e25230523063e2 ∧
  evenRound 0x7fc7f12befd0a0791de87fa96b469f52 0x369c65e4b11777ab713a3e1e6601b8f4 = 0xac8de17e49f7c5117618993162b189e9

/-- R90: bit `k` of the input becomes bit `(k + n) mod 128` of the output, and the worked examples. -/
def Obligations.RotationMovesBits : Prop :=
  (∀ (x : Block) (n k : Nat), n < 128 → k < 128 → (rol128 x n).getLsbD ((k + n) % 128) = x.getLsbD k) ∧
  (∀ (x : Block) (n : Nat), 1 ≤ n → n < 128 →
    (rol128 x n).toNat = (x.toNat * 2 ^ n ||| x.toNat / 2 ^ (128 - n)) % 2 ^ 128) ∧
  (∀ x : Block, rol128 x 0 = x) ∧
  rol128 0x000102030405060708090a0b0c0d0e0f 19 = 0x10182028303840485058606870780008 ∧
  rol128 0x000102030405060708090a0b0c0d0e0f 31 = 0x82028303840485058606870780008101 ∧
  rol128 0x000102030405060708090a0b0c0d0e0f 61 = 0xe10121416181a1c1e00020406080a0c0 ∧
  rol128 0x000102030405060708090a0b0c0d0e0f 97 = 0x181a1c1e00020406080a0c0e10121416 ∧
  rol128 0x000102030405060708090a0b0c0d0e0f 109 = 0xa1c1e00020406080a0c0e10121416181 ∧
  rol128 0x80000000000000000000000000000001 1 = 0x00000000000000000000000000000003

/-- R91: the rotation on 32-bit words, `q = n div 32` and `r = n mod 32`, word indices modulo 4. -/
def Obligations.RotationOnWords : Prop :=
  ∀ (x : Block) (n : Nat) (i : Fin 4), n < 128 →
    (n % 32 = 0 → wordAt (rol128 x n) i = wordAt x (Fin.ofNat 4 (i.val + n / 32))) ∧
    (n % 32 ≠ 0 → wordAt (rol128 x n) i =
      (wordAt x (Fin.ofNat 4 (i.val + n / 32)) <<< (n % 32)) |||
        (wordAt x (Fin.ofNat 4 (i.val + n / 32 + 1)) >>> (32 - n % 32)))

/-! ## INIT (42_key_schedule, 60_exceptions) -/

/-- R101: the three rows, no row for any other length, and the closed forms of the rule. -/
def Obligations.ParameterSelection : Prop :=
  selectParams 16 = some ⟨12, 0, 4, 8⟩ ∧ selectParams 24 = some ⟨14, 4, 8, 0⟩ ∧ selectParams 32 = some ⟨16, 8, 0, 4⟩ ∧
  (∀ n : Nat, ¬ LegalKeyLen n → selectParams n = none) ∧
  (∀ (n : Nat) (p : ScheduleParams), selectParams n = some p →
    p.rounds.toNat = n / 4 + 8 ∧ p.off1 = 4 * ((n / 8 - 2) % 3) ∧ p.off2 = 4 * ((n / 8 - 2 + 1) % 3) ∧
    p.off3 = 4 * ((n / 8 - 2 + 2) % 3))

/-- R103: KL and KR byte by byte, KR padded with zero bytes at the higher indices. -/
def Obligations.KeyHalvesAndPadding : Prop :=
  ∀ (key : Vector Byte 32) (keyLen : Nat) (i : Fin 16), LegalKeyLen keyLen →
    byteAt (keyLeft key) i = key[i.val] ∧
    (i.val + 16 < keyLen → byteAt (keyRight key keyLen) i = key[16 + i.val]) ∧
    (keyLen ≤ i.val + 16 → byteAt (keyRight key keyLen) i = 0)

/-- R104: the four intermediates. -/
def Obligations.IntermediatesChain : Prop :=
  ∀ (kl kr : Block) (p : ScheduleParams),
    let w := intermediates kl kr p
    w[0] = kl ∧ w[1] = xor128 (oddRound w[0] (ck p.off1)) kr ∧ w[2] = xor128 (evenRound w[1] (ck p.off2)) w[0] ∧
    w[3] = xor128 (oddRound w[2] (ck p.off3)) w[1]

/-- R105 and R106: a successful INIT, in any state, writes all 17 slots of `ek`: slot `r - 1` from round `r` of the cycle, with the
rotation amounts of the rule, whatever the key length. -/
def Obligations.InitWritesEncryptionKeys : Prop :=
  ∀ (s : State) (keyLen : Nat) (key : Vector Byte 32) (p : ScheduleParams), selectParams keyLen = some p →
    ∃ t, exec (.init true true keyLen key) s = .next t ∧
      ∀ r : Nat, 1 ≤ r → r ≤ 17 →
        slot t.ek (r - 1) =
          xor128
            (rol128 ((intermediates (keyLeft key) (keyRight key keyLen) p)[r % 4]!)
              (if r ≤ 4 then 109 else if r ≤ 8 then 97 else if r ≤ 12 then 61 else if r ≤ 16 then 31 else 19))
            ((intermediates (keyLeft key) (keyRight key keyLen) p)[(r - 1) % 4]!)

/-- R107, R12 and R110: a successful INIT, in any state, writes `dk[0..nr]` from `ek`, and leaves the slots above `nr` as they were. -/
def Obligations.InitWritesDecryptionKeys : Prop :=
  ∀ (s : State) (keyLen : Nat) (key : Vector Byte 32), LegalKeyLen keyLen →
    ∃ t, exec (.init true true keyLen key) s = .next t ∧ t.nr.toNat = keyLen / 4 + 8 ∧
      slot t.dk 0 = slot t.ek t.nr.toNat ∧
      (∀ i : Nat, 1 ≤ i → i < t.nr.toNat → slot t.dk i = diffuse (slot t.ek (t.nr.toNat - i))) ∧
      slot t.dk t.nr.toNat = slot t.ek 0 ∧
      (∀ i : Nat, t.nr.toNat < i → i ≤ 16 → slot t.dk i = slot s.dk i)

/-- R108 and R109: INIT with both references valid and a legal key length completes in every state, and this is the next state,
register by register (DoutWrittenByBlockCommandsOnly says that DOUT is as before). A failed INIT writes nothing but the response. -/
def Obligations.InitCompletes : Prop :=
  (∀ (s : State) (keyLen : Nat) (key : Vector Byte 32) (p : ScheduleParams), selectParams keyLen = some p →
    ∃ t, exec (.init true true keyLen key) s = .next t ∧
      t.nr = p.rounds ∧
      t.ek = encryptionKeys (intermediates (keyLeft key) (keyRight key keyLen) p) ∧
      t.dk = decryptionKeys t.ek p.rounds.toNat s.dk ∧
      t.phase = .ready ∧ t.response = some ⟨.ok, false⟩ ∧
      t.workW = Vector.replicate 4 0 ∧ t.workKL = 0 ∧ t.workKR = 0 ∧ t.workS = 0 ∧ t.workT = 0) ∧
  (∀ (s : State) (ctxv keyv : Bool) (keyLen : Nat) (key : Vector Byte 32), ¬ (ctxv = true ∧ keyv = true ∧ LegalKeyLen keyLen) →
    ∃ r, exec (.init ctxv keyv keyLen key) s = .next { s with response := some r })

/-- R149 and R150: an INIT whose check fails reports InvalidParameter when a reference is null, whatever the length, and
InvalidKeyLength otherwise; and only the response is written. -/
def Obligations.FailedInitWritesNothing : Prop :=
  ∀ (s : State) (ctxv keyv : Bool) (keyLen : Nat) (key : Vector Byte 32),
    (ctxv = false ∨ keyv = false →
      exec (.init ctxv keyv keyLen key) s = .next { s with response := some ⟨.invalidParameter, false⟩ }) ∧
    (ctxv = true → keyv = true → ¬ LegalKeyLen keyLen →
      exec (.init ctxv keyv keyLen key) s = .next { s with response := some ⟨.invalidKeyLength, false⟩ })

/-- R146: InvalidParameter is reported by an INIT with CTXV = 0 or KEYV = 0 and by nothing else. -/
def Obligations.InvalidParameterExactly : Prop :=
  ∀ (i : Instr) (s : State),
    (∃ t d, exec i s = .next t ∧ t.response = some ⟨.invalidParameter, d⟩) ↔
      ∃ ctxv keyv keyLen key, i = .init ctxv keyv keyLen key ∧ (ctxv = false ∨ keyv = false)

/-- R147: InvalidKeyLength is reported by an INIT with both references valid and a length other than 16, 24, 32, and by nothing else;
253 of the 256 values of KEYLEN are such. -/
def Obligations.InvalidKeyLengthExactly : Prop :=
  (∀ (i : Instr) (s : State),
    (∃ t d, exec i s = .next t ∧ t.response = some ⟨.invalidKeyLength, d⟩) ↔
      ∃ keyLen key, i = .init true true keyLen key ∧ ¬ LegalKeyLen keyLen) ∧
  ((List.range 256).filter fun n => (selectParams n).isNone).length = 253

/-- R55: the key bytes at index `keyLen` and above influence nothing INIT does, whatever its other operands. -/
def Obligations.InitIgnoresKeyTail : Prop :=
  ∀ (s : State) (ctxv keyv : Bool) (keyLen : Nat) (key key' : Vector Byte 32),
    (∀ i : Fin 32, i.val < keyLen → key[i] = key'[i]) →
    exec (.init ctxv keyv keyLen key) s = exec (.init ctxv keyv keyLen key') s

/-- R110: INIT replaces the key: whatever the two states held before, in whatever phase, the same successful INIT leaves the same
`nr`, `ek`, `dk[0..nr]` and phase in both. -/
def Obligations.InitReplacesKey : Prop :=
  ∀ (s s' : State) (keyLen : Nat) (key : Vector Byte 32), LegalKeyLen keyLen →
    ∃ t t', exec (.init true true keyLen key) s = .next t ∧ exec (.init true true keyLen key) s' = .next t' ∧
      t.nr = t'.nr ∧ t.ek = t'.ek ∧ (∀ i : Nat, i ≤ t.nr.toNat → slot t.dk i = slot t'.dk i) ∧ t.phase = t'.phase

/-! ## ENC and DEC (43_block_transform) -/

/-- R120: the full rounds one by one, round `i` with slot `i - 1`, OF in odd and EF in even rounds; then the final round, without A. -/
def Obligations.CryptRoundByRound : Prop :=
  ∀ (rk : Vector Block 17) (x : Block),
    fullRounds rk x 0 = x ∧
    (∀ i : Nat, 1 ≤ i → i % 2 = 1 → fullRounds rk x i = oddRound (fullRounds rk x (i - 1)) (slot rk (i - 1))) ∧
    (∀ i : Nat, 1 ≤ i → i % 2 = 0 → fullRounds rk x i = evenRound (fullRounds rk x (i - 1)) (slot rk (i - 1))) ∧
    (∀ n : Nat, crypt rk n x = xor128 (sl2 (xor128 (fullRounds rk x (n - 1)) (slot rk (n - 1)))) (slot rk n))

/-- R120: "no slot above `nr` is read": two files that agree on slots 0..n give the same result. -/
def Obligations.CryptReadsSlotsUpToRounds : Prop :=
  ∀ (rk rk' : Vector Block 17) (n : Nat) (x : Block), 1 ≤ n →
    (∀ i : Nat, i ≤ n → slot rk i = slot rk' i) → crypt rk n x = crypt rk' n x

/-- R121 and R124: ENC completes on every READY context whose `nr` is a round count, as it is in every READY state a run reaches
(InvariantKept); DOUT is CRYPT of DIN with `ek`, STATUS is OK, and every register but S and T, which
R14 leaves unspecified, is as before.
Outside READY it is refused. -/
def Obligations.EncCompletes : Prop :=
  ∀ (s : State) (din : Vector Byte 16),
    (s.BlockReady →
      ∃ t, exec (.enc din) s = .next t ∧
        t.dout = store128 (crypt s.ek s.nr.toNat (load128 din)) ∧ t.response = some ⟨.ok, true⟩ ∧
        t.nr = s.nr ∧ t.ek = s.ek ∧ t.dk = s.dk ∧ t.phase = s.phase ∧
        t.workW = s.workW ∧ t.workKL = s.workKL ∧ t.workKR = s.workKR) ∧
    (s.phase ≠ .ready → exec (.enc din) s = .refused .contextNotInitialised)

/-- R122 and R124: DEC likewise, with `dk`. -/
def Obligations.DecCompletes : Prop :=
  ∀ (s : State) (din : Vector Byte 16),
    (s.BlockReady →
      ∃ t, exec (.dec din) s = .next t ∧
        t.dout = store128 (crypt s.dk s.nr.toNat (load128 din)) ∧ t.response = some ⟨.ok, true⟩ ∧
        t.nr = s.nr ∧ t.ek = s.ek ∧ t.dk = s.dk ∧ t.phase = s.phase ∧
        t.workW = s.workW ∧ t.workKL = s.workKL ∧ t.workKR = s.workKR) ∧
    (s.phase ≠ .ready → exec (.dec din) s = .refused .contextNotInitialised)

/-- R127: ENC and DEC are refused, by the name that says so, in phase EMPTY and in phase ZEROISED. -/
def Obligations.BlockCommandsNeedReady : Prop :=
  ∀ (s : State) (din : Vector Byte 16), s.phase = .empty ∨ s.phase = .zeroised →
    exec (.enc din) s = .refused .contextNotInitialised ∧ exec (.dec din) s = .refused .contextNotInitialised

/-- R36 and R16: two block commands may be issued in either order: each returns the same DOUT and STATUS first or second. -/
def Obligations.BlockCommandsCommute : Prop :=
  ∀ (s : State) (i j : Instr), s.BlockReady →
    (∃ din, i = .enc din ∨ i = .dec din) → (∃ din, j = .enc din ∨ j = .dec din) →
    ∃ si sij sj sji, exec i s = .next si ∧ exec j si = .next sij ∧ exec j s = .next sj ∧ exec i sj = .next sji ∧
      sij.dout = sj.dout ∧ sij.response = sj.response ∧ sji.dout = si.dout ∧ sji.response = si.response ∧
      sij.SameContext sji

/-- R129: with mirrored round keys (invariant 2 of R16) and a legal round count, CRYPT with one file undoes CRYPT with the other. -/
def Obligations.CryptInvertsCrypt : Prop :=
  ∀ (ek dk : Vector Block 17) (n : Nat) (x : Block), n = 12 ∨ n = 14 ∨ n = 16 → MirroredKeys ek dk n →
    crypt dk n (crypt ek n x) = x ∧ crypt ek n (crypt dk n x) = x

/-- The cipher's round trip on the machine (spec 95 E4, R129): in any state, after an INIT with any key of any legal length, DEC of what
ENC returned returns the input, and ENC of what DEC returned returns the input. -/
def Obligations.InitThenRoundTrip : Prop :=
  ∀ (s : State) (keyLen : Nat) (key : Vector Byte 32) (din : Vector Byte 16), LegalKeyLen keyLen →
    ∃ s1 e d ed de,
      exec (.init true true keyLen key) s = .next s1 ∧
      exec (.enc din) s1 = .next e ∧ exec (.dec e.dout) e = .next ed ∧ ed.dout = din ∧
      exec (.dec din) s1 = .next d ∧ exec (.enc d.dout) d = .next de ∧ de.dout = din

/-- R14 and R15: no command's result depends on what the working registers held: from two states with the same context and interface,
both are refused alike or both go on to states with the same context and interface. -/
def Obligations.WorkRegistersNeverMatter : Prop :=
  ∀ (i : Instr) (s s' : State), s.SameButWork s' →
    (∀ t, exec i s = .next t → ∃ t', exec i s' = .next t' ∧ t.SameButWork t') ∧
    (∀ r, exec i s = .refused r → exec i s' = .refused r)

/-! ## Lifecycle and DEINIT (44_context_lifecycle) -/

/-- R136: DEINIT completes in every state: the raw view is zero, phase ZEROISED, STATUS OK
(DoutWrittenByBlockCommandsOnly says that DOUT is as before). -/
def Obligations.DeinitCompletes : Prop :=
  ∀ s : State, ∃ t, exec .deinit s = .next t ∧
    t.nr = 0 ∧ (∀ i : Nat, i ≤ 16 → slot t.ek i = 0 ∧ slot t.dk i = 0) ∧
    t.workW = Vector.replicate 4 0 ∧ t.workKL = 0 ∧ t.workKR = 0 ∧ t.workS = 0 ∧ t.workT = 0 ∧
    t.phase = .zeroised ∧ t.response = some ⟨.ok, false⟩

/-- R137: a second DEINIT leaves the same state with the same STATUS; after DEINIT a block command is refused; and from a phase other
than READY only a successful INIT makes the context READY. -/
def Obligations.DeinitIsIdempotent : Prop :=
  (∀ s : State, ∃ t, exec .deinit s = .next t ∧ exec .deinit t = .next t ∧ t.phase ≠ .ready ∧
    ∀ din, exec (.enc din) t = .refused .contextNotInitialised ∧ exec (.dec din) t = .refused .contextNotInitialised) ∧
  (∀ (s t : State) (i : Instr), s.phase ≠ .ready → exec i s = .next t →
    (t.phase = .ready ↔ ∃ keyLen key, LegalKeyLen keyLen ∧ i = .init true true keyLen key))

/-- R135: the transition table, row by row. The READY row of ENC and DEC holds where `nr` is a round count, which every READY state a
run reaches has (InvariantKept). -/
def Obligations.LifecycleTransitions : Prop :=
  (∀ s : State, (resetCore s).phase = .empty) ∧
  (∀ (s : State) (keyLen : Nat) (key : Vector Byte 32), LegalKeyLen keyLen →
    ∃ t, exec (.init true true keyLen key) s = .next t ∧ t.response = some ⟨.ok, false⟩ ∧ t.phase = .ready) ∧
  (∀ (s : State) (ctxv keyv : Bool) (keyLen : Nat) (key : Vector Byte 32), ¬ (ctxv = true ∧ keyv = true ∧ LegalKeyLen keyLen) →
    ∃ t st, exec (.init ctxv keyv keyLen key) s = .next t ∧ t.response = some ⟨st, false⟩ ∧
      (st = .invalidParameter ∨ st = .invalidKeyLength) ∧ t.SameContext s) ∧
  (∀ (s : State) (din : Vector Byte 16), s.BlockReady →
    (∃ t, exec (.enc din) s = .next t ∧ t.response = some ⟨.ok, true⟩ ∧ t.SameContext s) ∧
    (∃ t, exec (.dec din) s = .next t ∧ t.response = some ⟨.ok, true⟩ ∧ t.SameContext s)) ∧
  (∀ (s : State) (din : Vector Byte 16), s.phase ≠ .ready →
    exec (.enc din) s = .refused .contextNotInitialised ∧ exec (.dec din) s = .refused .contextNotInitialised) ∧
  (∀ s : State, ∃ t, exec .deinit s = .next t ∧ t.response = some ⟨.ok, false⟩ ∧ t.phase = .zeroised ∧ t.RawZero)

/-- R166: after reset, a failed INIT leaves the block commands refused; and after a successful INIT, in any state, they run. -/
def Obligations.InitEnablesBlockCommands : Prop :=
  (∀ (ctxv keyv : Bool) (keyLen : Nat) (key : Vector Byte 32), ¬ (ctxv = true ∧ keyv = true ∧ LegalKeyLen keyLen) →
    ∃ t, exec (.init ctxv keyv keyLen key) State.reset = .next t ∧
      ∀ din, exec (.enc din) t = .refused .contextNotInitialised ∧ exec (.dec din) t = .refused .contextNotInitialised) ∧
  (∀ (s : State) (keyLen : Nat) (key : Vector Byte 32), LegalKeyLen keyLen →
    ∃ t, exec (.init true true keyLen key) s = .next t ∧
      ∀ din, (∃ u, exec (.enc din) t = .next u) ∧ (∃ u, exec (.dec din) t = .next u))

/-! ## The whole machine -/

/-- R145, R128 and R153: only INIT reports an error. -/
def Obligations.OnlyInitReportsErrors : Prop :=
  ∀ (i : Instr) (s t : State) (st : Status) (d : Bool), exec i s = .next t → t.response = some ⟨st, d⟩ → st ≠ .ok →
    ∃ ctxv keyv keyLen key, i = .init ctxv keyv keyLen key

/-- R148: no command returns OutOfResources. -/
def Obligations.OutOfResourcesNeverReturned : Prop :=
  ∀ (i : Instr) (s t : State) (d : Bool), exec i s = .next t → t.response ≠ some ⟨.outOfResources, d⟩

/-- R57: the 2-bit numbers of the result codes, all different. -/
def Obligations.StatusCodes : Prop :=
  statusCode .ok = 0 ∧ statusCode .invalidParameter = 1 ∧ statusCode .invalidKeyLength = 2 ∧ statusCode .outOfResources = 3 ∧
  ∀ a b : Status, statusCode a = statusCode b → a = b

/-- R56: every command answered returns a STATUS; DOUT is returned by ENC and DEC, and by INIT and DEINIT neither written nor returned.
That DOUT is a buffer held in the state is the model's reading (log 13), and that the host's events to come are there too, which no
command changes, its choice (log 3). -/
def Obligations.DoutWrittenByBlockCommandsOnly : Prop :=
  ∀ (i : Instr) (s t : State), exec i s = .next t →
    t.pending = s.pending ∧
    ∃ st d, t.response = some ⟨st, d⟩ ∧
      (d = true ↔ ∃ din, i = .enc din ∨ i = .dec din) ∧ (d = false → t.dout = s.dout)

/-- A whole-machine rule (R10 to R13, R16, R135): a step that changes `nr`, `ek`, `dk` or `phase` carried out a reset, a successful INIT
or a DEINIT. -/
def Obligations.ContextChangedOnlyBy : Prop :=
  ∀ (s t : State), step s = .next t → ¬ t.SameContext s →
    (∃ rest, s.pending = .reset :: rest) ∨
    (∃ c rest, s.pending = .command c :: rest ∧
      ((∃ keyLen key, LegalKeyLen keyLen ∧ decode c = .ok (.init true true keyLen key)) ∨ decode c = .ok .deinit))

/-- The invariant, from every state that meets it: a READY context has a round count in `nr`, mirrored round keys and zero schedule
scratch (R16, R15); a ZEROISED one shows zero in the raw view (R136); no response carries OutOfResources, and DOUT comes with OK
only (R148, R56). Every step keeps it. -/
def Obligations.InvariantKept : Prop :=
  ∀ s t : State, s.Inv → step s = .next t → t.Inv

/-- The invariant holds after reset. -/
def Obligations.InvariantAtReset : Prop := State.reset.Inv
end

