-- ==== Sys2Proof/Laws/Bytes.lean ====
section
/-! SUPPORT. Bytes and words of blocks (R30): what the bytes of a block built from bytes or words are, and that a block is its bytes. -/

namespace Sys2Proof.Machine

theorem getLsbD_load32be (b0 b1 b2 b3 : Byte) (k : Nat) : (load32be b0 b1 b2 b3).getLsbD k =
    if k < 8 then b3.getLsbD k else if k < 16 then b2.getLsbD (k - 8)
    else if k < 24 then b1.getLsbD (k - 16) else b0.getLsbD (k - 24) := by
  simp only [load32be, BitVec.getLsbD_append, Nat.sub_sub]
  split_ifs <;> first | rfl | omega

theorem getLsbD_blockOfWords (w0 w1 w2 w3 : Word) (k : Nat) : (blockOfWords w0 w1 w2 w3).getLsbD k =
    if k < 32 then w3.getLsbD k else if k < 64 then w2.getLsbD (k - 32)
    else if k < 96 then w1.getLsbD (k - 64) else w0.getLsbD (k - 96) := by
  simp only [blockOfWords, BitVec.getLsbD_append, Nat.sub_sub]
  split_ifs <;> first | rfl | omega

theorem getLsbD_byteAt (x : Block) (i : Fin 16) (k : Nat) :
    (byteAt x i).getLsbD k = (decide (k < 8) && x.getLsbD (8 * (15 - i.val) + k)) := by
  simp [byteAt, BitVec.getLsbD_extractLsb']

theorem getLsbD_wordAt (x : Block) (j : Fin 4) (k : Nat) :
    (wordAt x j).getLsbD k = (decide (k < 32) && x.getLsbD (32 * (3 - j.val) + k)) := by
  simp [wordAt, BitVec.getLsbD_extractLsb']

/-- Bit `8 q + r` of a word of bytes is bit `r` of byte `3 - q`. -/
theorem getLsbD_load32be_byte (b : Fin 4 → Byte) (q : Fin 4) (r : Nat) (hr : r < 8) :
    (load32be (b 0) (b 1) (b 2) (b 3)).getLsbD (8 * q.val + r) = (b q.rev).getLsbD r := by
  rw [getLsbD_load32be]
  revert q
  simp only [Fin.forall_fin_succ, IsEmpty.forall_iff, and_true]
  refine ⟨?_, ?_, ?_, ?_⟩ <;> dsimp <;> split_ifs <;>
    first | omega | (congr 1; omega)

/-- Bit `32 q + r` of a block of words is bit `r` of word `3 - q`. -/
theorem getLsbD_blockOfWords_word (w : Fin 4 → Word) (q : Fin 4) (r : Nat) (hr : r < 32) :
    (blockOfWords (w 0) (w 1) (w 2) (w 3)).getLsbD (32 * q.val + r) = (w q.rev).getLsbD r := by
  rw [getLsbD_blockOfWords]
  revert q
  simp only [Fin.forall_fin_succ, IsEmpty.forall_iff, and_true]
  refine ⟨?_, ?_, ?_, ?_⟩ <;> dsimp <;> split_ifs <;>
    first | omega | (congr 1; omega)

/-- Word `j` of a block of bytes is made of bytes `4 j` to `4 j + 3`. -/
def wordOfBytes (b : Fin 16 → Byte) (j : Fin 4) : Word :=
  load32be (b ⟨4 * j.val, by omega⟩) (b ⟨4 * j.val + 1, by omega⟩) (b ⟨4 * j.val + 2, by omega⟩) (b ⟨4 * j.val + 3, by omega⟩)

theorem blockOfBytes_eq_words (b : Fin 16 → Byte) :
    blockOfBytes b = blockOfWords (wordOfBytes b 0) (wordOfBytes b 1) (wordOfBytes b 2) (wordOfBytes b 3) := rfl

/-- Bit `k` of a block of bytes is bit `k mod 8` of byte `15 - k/8`. -/
theorem getLsbD_blockOfBytes (b : Fin 16 → Byte) (k : Nat) (hk : k < 128) :
    (blockOfBytes b).getLsbD k = (b ⟨15 - k / 8, by omega⟩).getLsbD (k % 8) := by
  have hw := getLsbD_blockOfWords_word (wordOfBytes b) ⟨k / 32, by omega⟩ (k % 32) (Nat.mod_lt _ (by decide))
  have hb := getLsbD_load32be_byte (fun m => b ⟨4 * (3 - k / 32) + m.val, by omega⟩) ⟨k % 32 / 8, by omega⟩ (k % 8)
    (Nat.mod_lt _ (by decide))
  have h1 : 32 * (k / 32) + k % 32 = k := Nat.div_add_mod k 32
  have h2 : 8 * (k % 32 / 8) + k % 8 = k % 32 := by omega
  have h3 : 4 * (3 - k / 32) + (3 - k % 32 / 8) = 15 - k / 8 := by omega
  simp only [h1] at hw
  simp only [h2, Fin.val_rev, show 4 - (k % 32 / 8 + 1) = 3 - k % 32 / 8 by omega, h3] at hb
  rw [blockOfBytes_eq_words, hw, ← hb]
  simp only [wordOfBytes, Fin.val_rev, show 4 - (k / 32 + 1) = 3 - k / 32 by omega]
  rfl

/-- Byte `i` of a block of bytes. -/
@[simp] theorem byteAt_blockOfBytes (b : Fin 16 → Byte) (i : Fin 16) : byteAt (blockOfBytes b) i = b i := by
  apply BitVec.eq_of_getLsbD_eq
  intro k hk
  have hi := i.isLt
  rw [getLsbD_byteAt, getLsbD_blockOfBytes _ _ (by omega)]
  have h1 : (8 * (15 - i.val) + k) / 8 = 15 - i.val := by omega
  have h2 : (8 * (15 - i.val) + k) % 8 = k := by omega
  have h3 : 15 - (15 - i.val) = i.val := by omega
  simp [hk, h1, h2, h3]

/-- A block is its sixteen bytes. -/
theorem block_ext {x y : Block} (h : ∀ i, byteAt x i = byteAt y i) : x = y := by
  apply BitVec.eq_of_getLsbD_eq
  intro k hk
  have e := congrArg (·.getLsbD (k % 8)) (h ⟨15 - k / 8, by omega⟩)
  simp only [getLsbD_byteAt] at e
  have h1 : k % 8 < 8 := Nat.mod_lt _ (by decide)
  have h2 : 8 * (15 - (15 - k / 8)) + k % 8 = k := by omega
  simpa [h1, h2] using e

/-- Byte `i` of an exclusive or (R80). -/
@[simp] theorem byteAt_xor (x y : Block) (i : Fin 16) : byteAt (x ^^^ y) i = byteAt x i ^^^ byteAt y i := by
  apply BitVec.eq_of_getLsbD_eq
  intro k hk
  simp only [getLsbD_byteAt, BitVec.getLsbD_xor, hk, decide_true, Bool.true_and]

/-- Slot `i` of a round-key file, `i` in range. -/
@[simp] theorem slot_of_lt (file : Vector Block 17) {i : Nat} (h : i < 17) : slot file i = file[i] := by
  simp [slot, h]

/-- A slot of a file of zeros. -/
@[simp] theorem slot_replicate_zero (i : Nat) : slot (Vector.replicate 17 0#128) i = 0#128 := by
  simp [slot]

end Sys2Proof.Machine
end

