-- ==== Sys2Proof/Laws/Decode.lean ====
section
/-! SUPPORT. The rows of the table as plain conditions on the command word, and the fields of an INIT word. -/

namespace Sys2Proof

theorem and_fullMask (w : Word) : w &&& 0xFFFFFFFF = w := by
  have h : (0xFFFFFFFF : Word) = BitVec.allOnes 32 := by decide
  rw [h, BitVec.and_allOnes]

@[simp] theorem selectsRow_initRow (w : Word) : selectsRow initRow w = true ↔ w &&& 0xFFFF00F3 = 0 := by
  simp only [selectsRow, initRow, beq_iff_eq]

@[simp] theorem selectsRow_encRow (w : Word) : selectsRow encRow w = true ↔ w = 1 := by
  simp only [selectsRow, encRow, beq_iff_eq, and_fullMask]

@[simp] theorem selectsRow_decRow (w : Word) : selectsRow decRow w = true ↔ w = 2 := by
  simp only [selectsRow, decRow, beq_iff_eq, and_fullMask]

@[simp] theorem selectsRow_deinitRow (w : Word) : selectsRow deinitRow w = true ↔ w = 3 := by
  simp only [selectsRow, deinitRow, beq_iff_eq, and_fullMask]

/-- The row and the fields of an INIT word built from its fields (R50). -/
theorem initWord_fields (b : BitVec 8) (keyv ctxv : Bool) :
    let w : Word := 0#16 ++ b ++ 0#4 ++ BitVec.ofBool keyv ++ BitVec.ofBool ctxv ++ 0#2
    selectsRow initRow w = true ∧ ctxvField w = ctxv ∧ keyvField w = keyv ∧ keyLenField w = b.toNat := by
  have h : ∀ (b : BitVec 8) (k c : Bool), selectsRow initRow (0#16 ++ b ++ 0#4 ++ BitVec.ofBool k ++ BitVec.ofBool c ++ 0#2) = true ∧
      ctxvField (0#16 ++ b ++ 0#4 ++ BitVec.ofBool k ++ BitVec.ofBool c ++ 0#2) = c ∧
      keyvField (0#16 ++ b ++ 0#4 ++ BitVec.ofBool k ++ BitVec.ofBool c ++ 0#2) = k ∧
      keyLenField (0#16 ++ b ++ 0#4 ++ BitVec.ofBool k ++ BitVec.ofBool c ++ 0#2) = b.toNat := by decide
  exact h b keyv ctxv

/-- What a decoded word is, by the command it decodes to. -/
theorem decode_cases {c : Command} {i : Instr} (h : decode c = .ok i) :
    (c.cmd &&& 0xFFFF00F3 = 0 ∧ i = .init (ctxvField c.cmd) (keyvField c.cmd) (keyLenField c.cmd) c.key) ∨
      (c.cmd = 1 ∧ i = .enc c.din) ∨ (c.cmd = 2 ∧ i = .dec c.din) ∨ (c.cmd = 3 ∧ i = .deinit) := by
  unfold decode at h
  split_ifs at h with h1 h2 h3 h4 <;> simp_all

end Sys2Proof
end

