-- ==== Sys2Proof/Laws/State.lean ====
section
/-! SUPPORT. One lemma per field and named update of State: what the field reads after the update. -/

namespace Sys2Proof.Machine

@[simp] theorem respond_nr (st : Status) (s : State) : (respond st s).nr = s.nr := rfl
@[simp] theorem respond_ek (st : Status) (s : State) : (respond st s).ek = s.ek := rfl
@[simp] theorem respond_dk (st : Status) (s : State) : (respond st s).dk = s.dk := rfl
@[simp] theorem respond_phase (st : Status) (s : State) : (respond st s).phase = s.phase := rfl
@[simp] theorem respond_workS (st : Status) (s : State) : (respond st s).workS = s.workS := rfl
@[simp] theorem respond_workT (st : Status) (s : State) : (respond st s).workT = s.workT := rfl
@[simp] theorem respond_workW (st : Status) (s : State) : (respond st s).workW = s.workW := rfl
@[simp] theorem respond_workKL (st : Status) (s : State) : (respond st s).workKL = s.workKL := rfl
@[simp] theorem respond_workKR (st : Status) (s : State) : (respond st s).workKR = s.workKR := rfl
@[simp] theorem respond_dout (st : Status) (s : State) : (respond st s).dout = s.dout := rfl
@[simp] theorem respond_response (st : Status) (s : State) : (respond st s).response = some ⟨st, false⟩ := rfl
@[simp] theorem respond_pending (st : Status) (s : State) : (respond st s).pending = s.pending := rfl
@[simp] theorem respond_draws (st : Status) (s : State) : (respond st s).draws = s.draws := rfl

@[simp] theorem respondBlock_nr (out : Vector Byte 16) (s : State) : (respondBlock out s).nr = s.nr := rfl
@[simp] theorem respondBlock_ek (out : Vector Byte 16) (s : State) : (respondBlock out s).ek = s.ek := rfl
@[simp] theorem respondBlock_dk (out : Vector Byte 16) (s : State) : (respondBlock out s).dk = s.dk := rfl
@[simp] theorem respondBlock_phase (out : Vector Byte 16) (s : State) : (respondBlock out s).phase = s.phase := rfl
@[simp] theorem respondBlock_workS (out : Vector Byte 16) (s : State) : (respondBlock out s).workS = s.workS := rfl
@[simp] theorem respondBlock_workT (out : Vector Byte 16) (s : State) : (respondBlock out s).workT = s.workT := rfl
@[simp] theorem respondBlock_workW (out : Vector Byte 16) (s : State) : (respondBlock out s).workW = s.workW := rfl
@[simp] theorem respondBlock_workKL (out : Vector Byte 16) (s : State) : (respondBlock out s).workKL = s.workKL := rfl
@[simp] theorem respondBlock_workKR (out : Vector Byte 16) (s : State) : (respondBlock out s).workKR = s.workKR := rfl
@[simp] theorem respondBlock_dout (out : Vector Byte 16) (s : State) : (respondBlock out s).dout = out := rfl
@[simp] theorem respondBlock_response (out : Vector Byte 16) (s : State) : (respondBlock out s).response = some ⟨.ok, true⟩ := rfl
@[simp] theorem respondBlock_pending (out : Vector Byte 16) (s : State) : (respondBlock out s).pending = s.pending := rfl
@[simp] theorem respondBlock_draws (out : Vector Byte 16) (s : State) : (respondBlock out s).draws = s.draws := rfl

@[simp] theorem raiseError_nr (e : Status) (s : State) : (raiseError e s).nr = s.nr := rfl
@[simp] theorem raiseError_ek (e : Status) (s : State) : (raiseError e s).ek = s.ek := rfl
@[simp] theorem raiseError_dk (e : Status) (s : State) : (raiseError e s).dk = s.dk := rfl
@[simp] theorem raiseError_phase (e : Status) (s : State) : (raiseError e s).phase = s.phase := rfl
@[simp] theorem raiseError_workS (e : Status) (s : State) : (raiseError e s).workS = s.workS := rfl
@[simp] theorem raiseError_workT (e : Status) (s : State) : (raiseError e s).workT = s.workT := rfl
@[simp] theorem raiseError_workW (e : Status) (s : State) : (raiseError e s).workW = s.workW := rfl
@[simp] theorem raiseError_workKL (e : Status) (s : State) : (raiseError e s).workKL = s.workKL := rfl
@[simp] theorem raiseError_workKR (e : Status) (s : State) : (raiseError e s).workKR = s.workKR := rfl
@[simp] theorem raiseError_dout (e : Status) (s : State) : (raiseError e s).dout = s.dout := rfl
@[simp] theorem raiseError_response (e : Status) (s : State) : (raiseError e s).response = some ⟨e, false⟩ := rfl
@[simp] theorem raiseError_pending (e : Status) (s : State) : (raiseError e s).pending = s.pending := rfl
@[simp] theorem raiseError_draws (e : Status) (s : State) : (raiseError e s).draws = s.draws := rfl

@[simp] theorem zeroiseWork_nr (s : State) : (zeroiseWork s).nr = s.nr := rfl
@[simp] theorem zeroiseWork_ek (s : State) : (zeroiseWork s).ek = s.ek := rfl
@[simp] theorem zeroiseWork_dk (s : State) : (zeroiseWork s).dk = s.dk := rfl
@[simp] theorem zeroiseWork_phase (s : State) : (zeroiseWork s).phase = s.phase := rfl
@[simp] theorem zeroiseWork_workS (s : State) : (zeroiseWork s).workS = 0 := rfl
@[simp] theorem zeroiseWork_workT (s : State) : (zeroiseWork s).workT = 0 := rfl
@[simp] theorem zeroiseWork_workW (s : State) : (zeroiseWork s).workW = Vector.replicate 4 0 := rfl
@[simp] theorem zeroiseWork_workKL (s : State) : (zeroiseWork s).workKL = 0 := rfl
@[simp] theorem zeroiseWork_workKR (s : State) : (zeroiseWork s).workKR = 0 := rfl
@[simp] theorem zeroiseWork_dout (s : State) : (zeroiseWork s).dout = s.dout := rfl
@[simp] theorem zeroiseWork_response (s : State) : (zeroiseWork s).response = s.response := rfl
@[simp] theorem zeroiseWork_pending (s : State) : (zeroiseWork s).pending = s.pending := rfl
@[simp] theorem zeroiseWork_draws (s : State) : (zeroiseWork s).draws = s.draws := rfl

@[simp] theorem zeroiseContext_nr (s : State) : (zeroiseContext s).nr = 0 := rfl
@[simp] theorem zeroiseContext_ek (s : State) : (zeroiseContext s).ek = Vector.replicate 17 0 := rfl
@[simp] theorem zeroiseContext_dk (s : State) : (zeroiseContext s).dk = Vector.replicate 17 0 := rfl
@[simp] theorem zeroiseContext_phase (s : State) : (zeroiseContext s).phase = s.phase := rfl
@[simp] theorem zeroiseContext_workS (s : State) : (zeroiseContext s).workS = s.workS := rfl
@[simp] theorem zeroiseContext_workT (s : State) : (zeroiseContext s).workT = s.workT := rfl
@[simp] theorem zeroiseContext_workW (s : State) : (zeroiseContext s).workW = s.workW := rfl
@[simp] theorem zeroiseContext_workKL (s : State) : (zeroiseContext s).workKL = s.workKL := rfl
@[simp] theorem zeroiseContext_workKR (s : State) : (zeroiseContext s).workKR = s.workKR := rfl
@[simp] theorem zeroiseContext_dout (s : State) : (zeroiseContext s).dout = s.dout := rfl
@[simp] theorem zeroiseContext_response (s : State) : (zeroiseContext s).response = s.response := rfl
@[simp] theorem zeroiseContext_pending (s : State) : (zeroiseContext s).pending = s.pending := rfl
@[simp] theorem zeroiseContext_draws (s : State) : (zeroiseContext s).draws = s.draws := rfl

@[simp] theorem leaveWorkUnspecified_nr (s : State) : (leaveWorkUnspecified s).nr = s.nr := rfl
@[simp] theorem leaveWorkUnspecified_ek (s : State) : (leaveWorkUnspecified s).ek = s.ek := rfl
@[simp] theorem leaveWorkUnspecified_dk (s : State) : (leaveWorkUnspecified s).dk = s.dk := rfl
@[simp] theorem leaveWorkUnspecified_phase (s : State) : (leaveWorkUnspecified s).phase = s.phase := rfl
@[simp] theorem leaveWorkUnspecified_workS (s : State) : (leaveWorkUnspecified s).workS = Config.freeS s.draws := rfl
@[simp] theorem leaveWorkUnspecified_workT (s : State) : (leaveWorkUnspecified s).workT = Config.freeT s.draws := rfl
@[simp] theorem leaveWorkUnspecified_workW (s : State) : (leaveWorkUnspecified s).workW = s.workW := rfl
@[simp] theorem leaveWorkUnspecified_workKL (s : State) : (leaveWorkUnspecified s).workKL = s.workKL := rfl
@[simp] theorem leaveWorkUnspecified_workKR (s : State) : (leaveWorkUnspecified s).workKR = s.workKR := rfl
@[simp] theorem leaveWorkUnspecified_dout (s : State) : (leaveWorkUnspecified s).dout = s.dout := rfl
@[simp] theorem leaveWorkUnspecified_response (s : State) : (leaveWorkUnspecified s).response = s.response := rfl
@[simp] theorem leaveWorkUnspecified_pending (s : State) : (leaveWorkUnspecified s).pending = s.pending := rfl
@[simp] theorem leaveWorkUnspecified_draws (s : State) : (leaveWorkUnspecified s).draws = s.draws + 1 := rfl

@[simp] theorem setPhase_nr (p : Phase) (s : State) : (setPhase p s).nr = s.nr := rfl
@[simp] theorem setPhase_ek (p : Phase) (s : State) : (setPhase p s).ek = s.ek := rfl
@[simp] theorem setPhase_dk (p : Phase) (s : State) : (setPhase p s).dk = s.dk := rfl
@[simp] theorem setPhase_phase (p : Phase) (s : State) : (setPhase p s).phase = p := rfl
@[simp] theorem setPhase_workS (p : Phase) (s : State) : (setPhase p s).workS = s.workS := rfl
@[simp] theorem setPhase_workT (p : Phase) (s : State) : (setPhase p s).workT = s.workT := rfl
@[simp] theorem setPhase_workW (p : Phase) (s : State) : (setPhase p s).workW = s.workW := rfl
@[simp] theorem setPhase_workKL (p : Phase) (s : State) : (setPhase p s).workKL = s.workKL := rfl
@[simp] theorem setPhase_workKR (p : Phase) (s : State) : (setPhase p s).workKR = s.workKR := rfl
@[simp] theorem setPhase_dout (p : Phase) (s : State) : (setPhase p s).dout = s.dout := rfl
@[simp] theorem setPhase_response (p : Phase) (s : State) : (setPhase p s).response = s.response := rfl
@[simp] theorem setPhase_pending (p : Phase) (s : State) : (setPhase p s).pending = s.pending := rfl
@[simp] theorem setPhase_draws (p : Phase) (s : State) : (setPhase p s).draws = s.draws := rfl

@[simp] theorem formHalves_nr (key : Vector Byte 32) (keyLen : Nat) (s : State) : (formHalves key keyLen s).nr = s.nr := rfl
@[simp] theorem formHalves_ek (key : Vector Byte 32) (keyLen : Nat) (s : State) : (formHalves key keyLen s).ek = s.ek := rfl
@[simp] theorem formHalves_dk (key : Vector Byte 32) (keyLen : Nat) (s : State) : (formHalves key keyLen s).dk = s.dk := rfl
@[simp] theorem formHalves_phase (key : Vector Byte 32) (keyLen : Nat) (s : State) : (formHalves key keyLen s).phase = s.phase := rfl
@[simp] theorem formHalves_workS (key : Vector Byte 32) (keyLen : Nat) (s : State) : (formHalves key keyLen s).workS = s.workS := rfl
@[simp] theorem formHalves_workT (key : Vector Byte 32) (keyLen : Nat) (s : State) : (formHalves key keyLen s).workT = s.workT := rfl
@[simp] theorem formHalves_workW (key : Vector Byte 32) (keyLen : Nat) (s : State) : (formHalves key keyLen s).workW = s.workW := rfl
@[simp] theorem formHalves_workKL (key : Vector Byte 32) (keyLen : Nat) (s : State) : (formHalves key keyLen s).workKL = keyLeft key := rfl
@[simp] theorem formHalves_workKR (key : Vector Byte 32) (keyLen : Nat) (s : State) : (formHalves key keyLen s).workKR = keyRight key keyLen := rfl
@[simp] theorem formHalves_dout (key : Vector Byte 32) (keyLen : Nat) (s : State) : (formHalves key keyLen s).dout = s.dout := rfl
@[simp] theorem formHalves_response (key : Vector Byte 32) (keyLen : Nat) (s : State) : (formHalves key keyLen s).response = s.response := rfl
@[simp] theorem formHalves_pending (key : Vector Byte 32) (keyLen : Nat) (s : State) : (formHalves key keyLen s).pending = s.pending := rfl
@[simp] theorem formHalves_draws (key : Vector Byte 32) (keyLen : Nat) (s : State) : (formHalves key keyLen s).draws = s.draws := rfl

@[simp] theorem formIntermediates_nr (p : ScheduleParams) (s : State) : (formIntermediates p s).nr = s.nr := rfl
@[simp] theorem formIntermediates_ek (p : ScheduleParams) (s : State) : (formIntermediates p s).ek = s.ek := rfl
@[simp] theorem formIntermediates_dk (p : ScheduleParams) (s : State) : (formIntermediates p s).dk = s.dk := rfl
@[simp] theorem formIntermediates_phase (p : ScheduleParams) (s : State) : (formIntermediates p s).phase = s.phase := rfl
@[simp] theorem formIntermediates_workS (p : ScheduleParams) (s : State) : (formIntermediates p s).workS = s.workS := rfl
@[simp] theorem formIntermediates_workT (p : ScheduleParams) (s : State) : (formIntermediates p s).workT = s.workT := rfl
@[simp] theorem formIntermediates_workW (p : ScheduleParams) (s : State) : (formIntermediates p s).workW = intermediates s.workKL s.workKR p := rfl
@[simp] theorem formIntermediates_workKL (p : ScheduleParams) (s : State) : (formIntermediates p s).workKL = s.workKL := rfl
@[simp] theorem formIntermediates_workKR (p : ScheduleParams) (s : State) : (formIntermediates p s).workKR = s.workKR := rfl
@[simp] theorem formIntermediates_dout (p : ScheduleParams) (s : State) : (formIntermediates p s).dout = s.dout := rfl
@[simp] theorem formIntermediates_response (p : ScheduleParams) (s : State) : (formIntermediates p s).response = s.response := rfl
@[simp] theorem formIntermediates_pending (p : ScheduleParams) (s : State) : (formIntermediates p s).pending = s.pending := rfl
@[simp] theorem formIntermediates_draws (p : ScheduleParams) (s : State) : (formIntermediates p s).draws = s.draws := rfl

@[simp] theorem deriveEncryptionKeys_nr (s : State) : (deriveEncryptionKeys s).nr = s.nr := rfl
@[simp] theorem deriveEncryptionKeys_ek (s : State) : (deriveEncryptionKeys s).ek = encryptionKeys s.workW := rfl
@[simp] theorem deriveEncryptionKeys_dk (s : State) : (deriveEncryptionKeys s).dk = s.dk := rfl
@[simp] theorem deriveEncryptionKeys_phase (s : State) : (deriveEncryptionKeys s).phase = s.phase := rfl
@[simp] theorem deriveEncryptionKeys_workS (s : State) : (deriveEncryptionKeys s).workS = s.workS := rfl
@[simp] theorem deriveEncryptionKeys_workT (s : State) : (deriveEncryptionKeys s).workT = s.workT := rfl
@[simp] theorem deriveEncryptionKeys_workW (s : State) : (deriveEncryptionKeys s).workW = s.workW := rfl
@[simp] theorem deriveEncryptionKeys_workKL (s : State) : (deriveEncryptionKeys s).workKL = s.workKL := rfl
@[simp] theorem deriveEncryptionKeys_workKR (s : State) : (deriveEncryptionKeys s).workKR = s.workKR := rfl
@[simp] theorem deriveEncryptionKeys_dout (s : State) : (deriveEncryptionKeys s).dout = s.dout := rfl
@[simp] theorem deriveEncryptionKeys_response (s : State) : (deriveEncryptionKeys s).response = s.response := rfl
@[simp] theorem deriveEncryptionKeys_pending (s : State) : (deriveEncryptionKeys s).pending = s.pending := rfl
@[simp] theorem deriveEncryptionKeys_draws (s : State) : (deriveEncryptionKeys s).draws = s.draws := rfl

@[simp] theorem setRounds_nr (p : ScheduleParams) (s : State) : (setRounds p s).nr = p.rounds := rfl
@[simp] theorem setRounds_ek (p : ScheduleParams) (s : State) : (setRounds p s).ek = s.ek := rfl
@[simp] theorem setRounds_dk (p : ScheduleParams) (s : State) : (setRounds p s).dk = s.dk := rfl
@[simp] theorem setRounds_phase (p : ScheduleParams) (s : State) : (setRounds p s).phase = s.phase := rfl
@[simp] theorem setRounds_workS (p : ScheduleParams) (s : State) : (setRounds p s).workS = s.workS := rfl
@[simp] theorem setRounds_workT (p : ScheduleParams) (s : State) : (setRounds p s).workT = s.workT := rfl
@[simp] theorem setRounds_workW (p : ScheduleParams) (s : State) : (setRounds p s).workW = s.workW := rfl
@[simp] theorem setRounds_workKL (p : ScheduleParams) (s : State) : (setRounds p s).workKL = s.workKL := rfl
@[simp] theorem setRounds_workKR (p : ScheduleParams) (s : State) : (setRounds p s).workKR = s.workKR := rfl
@[simp] theorem setRounds_dout (p : ScheduleParams) (s : State) : (setRounds p s).dout = s.dout := rfl
@[simp] theorem setRounds_response (p : ScheduleParams) (s : State) : (setRounds p s).response = s.response := rfl
@[simp] theorem setRounds_pending (p : ScheduleParams) (s : State) : (setRounds p s).pending = s.pending := rfl
@[simp] theorem setRounds_draws (p : ScheduleParams) (s : State) : (setRounds p s).draws = s.draws := rfl

@[simp] theorem deriveDecryptionKeys_nr (s : State) : (deriveDecryptionKeys s).nr = s.nr := rfl
@[simp] theorem deriveDecryptionKeys_ek (s : State) : (deriveDecryptionKeys s).ek = s.ek := rfl
@[simp] theorem deriveDecryptionKeys_dk (s : State) : (deriveDecryptionKeys s).dk = decryptionKeys s.ek s.nr.toNat s.dk := rfl
@[simp] theorem deriveDecryptionKeys_phase (s : State) : (deriveDecryptionKeys s).phase = s.phase := rfl
@[simp] theorem deriveDecryptionKeys_workS (s : State) : (deriveDecryptionKeys s).workS = s.workS := rfl
@[simp] theorem deriveDecryptionKeys_workT (s : State) : (deriveDecryptionKeys s).workT = s.workT := rfl
@[simp] theorem deriveDecryptionKeys_workW (s : State) : (deriveDecryptionKeys s).workW = s.workW := rfl
@[simp] theorem deriveDecryptionKeys_workKL (s : State) : (deriveDecryptionKeys s).workKL = s.workKL := rfl
@[simp] theorem deriveDecryptionKeys_workKR (s : State) : (deriveDecryptionKeys s).workKR = s.workKR := rfl
@[simp] theorem deriveDecryptionKeys_dout (s : State) : (deriveDecryptionKeys s).dout = s.dout := rfl
@[simp] theorem deriveDecryptionKeys_response (s : State) : (deriveDecryptionKeys s).response = s.response := rfl
@[simp] theorem deriveDecryptionKeys_pending (s : State) : (deriveDecryptionKeys s).pending = s.pending := rfl
@[simp] theorem deriveDecryptionKeys_draws (s : State) : (deriveDecryptionKeys s).draws = s.draws := rfl

@[simp] theorem loadInput_nr (din : Vector Byte 16) (s : State) : (loadInput din s).nr = s.nr := rfl
@[simp] theorem loadInput_ek (din : Vector Byte 16) (s : State) : (loadInput din s).ek = s.ek := rfl
@[simp] theorem loadInput_dk (din : Vector Byte 16) (s : State) : (loadInput din s).dk = s.dk := rfl
@[simp] theorem loadInput_phase (din : Vector Byte 16) (s : State) : (loadInput din s).phase = s.phase := rfl
@[simp] theorem loadInput_workS (din : Vector Byte 16) (s : State) : (loadInput din s).workS = load128 din := rfl
@[simp] theorem loadInput_workT (din : Vector Byte 16) (s : State) : (loadInput din s).workT = s.workT := rfl
@[simp] theorem loadInput_workW (din : Vector Byte 16) (s : State) : (loadInput din s).workW = s.workW := rfl
@[simp] theorem loadInput_workKL (din : Vector Byte 16) (s : State) : (loadInput din s).workKL = s.workKL := rfl
@[simp] theorem loadInput_workKR (din : Vector Byte 16) (s : State) : (loadInput din s).workKR = s.workKR := rfl
@[simp] theorem loadInput_dout (din : Vector Byte 16) (s : State) : (loadInput din s).dout = s.dout := rfl
@[simp] theorem loadInput_response (din : Vector Byte 16) (s : State) : (loadInput din s).response = s.response := rfl
@[simp] theorem loadInput_pending (din : Vector Byte 16) (s : State) : (loadInput din s).pending = s.pending := rfl
@[simp] theorem loadInput_draws (din : Vector Byte 16) (s : State) : (loadInput din s).draws = s.draws := rfl

@[simp] theorem cryptInput_nr (rk : Vector Block 17) (s : State) : (cryptInput rk s).nr = s.nr := rfl
@[simp] theorem cryptInput_ek (rk : Vector Block 17) (s : State) : (cryptInput rk s).ek = s.ek := rfl
@[simp] theorem cryptInput_dk (rk : Vector Block 17) (s : State) : (cryptInput rk s).dk = s.dk := rfl
@[simp] theorem cryptInput_phase (rk : Vector Block 17) (s : State) : (cryptInput rk s).phase = s.phase := rfl
@[simp] theorem cryptInput_workS (rk : Vector Block 17) (s : State) : (cryptInput rk s).workS = crypt rk s.nr.toNat s.workS := rfl
@[simp] theorem cryptInput_workT (rk : Vector Block 17) (s : State) : (cryptInput rk s).workT = s.workT := rfl
@[simp] theorem cryptInput_workW (rk : Vector Block 17) (s : State) : (cryptInput rk s).workW = s.workW := rfl
@[simp] theorem cryptInput_workKL (rk : Vector Block 17) (s : State) : (cryptInput rk s).workKL = s.workKL := rfl
@[simp] theorem cryptInput_workKR (rk : Vector Block 17) (s : State) : (cryptInput rk s).workKR = s.workKR := rfl
@[simp] theorem cryptInput_dout (rk : Vector Block 17) (s : State) : (cryptInput rk s).dout = s.dout := rfl
@[simp] theorem cryptInput_response (rk : Vector Block 17) (s : State) : (cryptInput rk s).response = s.response := rfl
@[simp] theorem cryptInput_pending (rk : Vector Block 17) (s : State) : (cryptInput rk s).pending = s.pending := rfl
@[simp] theorem cryptInput_draws (rk : Vector Block 17) (s : State) : (cryptInput rk s).draws = s.draws := rfl

@[simp] theorem storeOutput_nr (s : State) : (storeOutput s).nr = s.nr := rfl
@[simp] theorem storeOutput_ek (s : State) : (storeOutput s).ek = s.ek := rfl
@[simp] theorem storeOutput_dk (s : State) : (storeOutput s).dk = s.dk := rfl
@[simp] theorem storeOutput_phase (s : State) : (storeOutput s).phase = s.phase := rfl
@[simp] theorem storeOutput_workS (s : State) : (storeOutput s).workS = s.workS := rfl
@[simp] theorem storeOutput_workT (s : State) : (storeOutput s).workT = s.workT := rfl
@[simp] theorem storeOutput_workW (s : State) : (storeOutput s).workW = s.workW := rfl
@[simp] theorem storeOutput_workKL (s : State) : (storeOutput s).workKL = s.workKL := rfl
@[simp] theorem storeOutput_workKR (s : State) : (storeOutput s).workKR = s.workKR := rfl
@[simp] theorem storeOutput_dout (s : State) : (storeOutput s).dout = store128 s.workS := rfl
@[simp] theorem storeOutput_response (s : State) : (storeOutput s).response = some ⟨.ok, true⟩ := rfl
@[simp] theorem storeOutput_pending (s : State) : (storeOutput s).pending = s.pending := rfl
@[simp] theorem storeOutput_draws (s : State) : (storeOutput s).draws = s.draws := rfl

@[simp] theorem resetCore_nr (s : State) : (resetCore s).nr = Config.freeNr s.draws := rfl
@[simp] theorem resetCore_ek (s : State) : (resetCore s).ek = Config.freeEk s.draws := rfl
@[simp] theorem resetCore_dk (s : State) : (resetCore s).dk = Config.freeDk s.draws := rfl
@[simp] theorem resetCore_phase (s : State) : (resetCore s).phase = .empty := rfl
@[simp] theorem resetCore_workS (s : State) : (resetCore s).workS = Config.freeS s.draws := rfl
@[simp] theorem resetCore_workT (s : State) : (resetCore s).workT = Config.freeT s.draws := rfl
@[simp] theorem resetCore_workW (s : State) : (resetCore s).workW = Config.freeW s.draws := rfl
@[simp] theorem resetCore_workKL (s : State) : (resetCore s).workKL = Config.freeKL s.draws := rfl
@[simp] theorem resetCore_workKR (s : State) : (resetCore s).workKR = Config.freeKR s.draws := rfl
@[simp] theorem resetCore_dout (s : State) : (resetCore s).dout = Config.freeDout s.draws := rfl
@[simp] theorem resetCore_response (s : State) : (resetCore s).response = none := rfl
@[simp] theorem resetCore_pending (s : State) : (resetCore s).pending = s.pending := rfl
@[simp] theorem resetCore_draws (s : State) : (resetCore s).draws = s.draws + 1 := rfl

end Sys2Proof.Machine
end

