-- ==== Sys2Proof/Laws/Exec.lean ====
section
/-! SUPPORT. What each meaning and each step can do, said once: the provers cite these instead of unfolding the definitions. -/

namespace Sys2Proof.Machine

/-- The parameters R101 selects, by the three key lengths. -/
theorem selectParams_eq_some {keyLen : Nat} {p : ScheduleParams} : selectParams keyLen = some p ↔
    (keyLen = 16 ∧ p = ⟨12, 0, 4, 8⟩) ∨ (keyLen = 24 ∧ p = ⟨14, 4, 8, 0⟩) ∨ (keyLen = 32 ∧ p = ⟨16, 8, 0, 4⟩) := by
  unfold selectParams
  split_ifs with h1 h2 h3 <;> simp_all [eq_comm]

theorem selectParams_eq_none {keyLen : Nat} :
    selectParams keyLen = none ↔ keyLen ≠ 16 ∧ keyLen ≠ 24 ∧ keyLen ≠ 32 := by
  unfold selectParams
  split_ifs <;> simp_all

/-- INIT's check passes when both references are valid and the length has a row in R101. -/
theorem initCheck_eq_ok {ctxv keyv : Bool} {keyLen : Nat} {p : ScheduleParams} :
    initCheck ctxv keyv keyLen = .ok p ↔ ctxv = true ∧ keyv = true ∧ selectParams keyLen = some p := by
  cases ctxv <;> cases keyv <;> simp [initCheck]
  cases selectParams keyLen <;> simp

/-- INIT's check fails with InvalidParameter or InvalidKeyLength, by R149's order. -/
theorem initCheck_eq_error {ctxv keyv : Bool} {keyLen : Nat} {e : Status} : initCheck ctxv keyv keyLen = .error e ↔
    ((ctxv = false ∨ keyv = false) ∧ e = .invalidParameter) ∨
      (ctxv = true ∧ keyv = true ∧ selectParams keyLen = none ∧ e = .invalidKeyLength) := by
  cases hp : selectParams keyLen <;> cases ctxv <;> cases keyv <;> simp [initCheck, hp, eq_comm]

/-- INIT always answers a next state: an error raised, or the key expanded. -/
theorem execInit_cases {ctxv keyv : Bool} {keyLen : Nat} {key : Vector Byte 32} {s t : State}
    (h : execInit ctxv keyv keyLen key s = .next t) :
    (∃ e, initCheck ctxv keyv keyLen = .error e ∧ t = raiseError e s) ∨
      (∃ p, initCheck ctxv keyv keyLen = .ok p ∧ t = expandKey p key keyLen s) := by
  unfold execInit at h
  split at h <;> simp_all

/-- A block command answers a next state exactly from a READY context whose `nr` is a round count, and then this one. -/
theorem blockCommand_eq_next {rk : Vector Block 17} {din : Vector Byte 16} {s t : State} :
    blockCommand rk din s = .next t ↔ s.phase = .ready ∧ legalRounds s.nr = true ∧
      t = leaveWorkUnspecified (storeOutput (cryptInput rk (loadInput din s))) := by
  unfold blockCommand
  split_ifs with hp hl
  · simp [hp]
  · simp [hl]
  · rw [Host.Outcome.next.injEq]
    simp_all only [ne_eq, not_not, Bool.not_eq_false, true_and]
    exact eq_comm

/-- When and how a block command is refused. -/
theorem blockCommand_eq_refused {rk : Vector Block 17} {din : Vector Byte 16} {s : State} {r : Refusal} :
    blockCommand rk din s = .refused r ↔ (s.phase ≠ .ready ∧ r = .contextNotInitialised) ∨
      (s.phase = .ready ∧ legalRounds s.nr = false ∧ r = .mismatchedRoundCount) := by
  unfold blockCommand
  split_ifs with hp hl
  · constructor
    · rintro ⟨⟩
      exact .inl ⟨hp, rfl⟩
    · rintro (⟨-, rfl⟩ | ⟨hr, -, -⟩)
      · rfl
      · exact absurd hr hp
  · constructor
    · rintro ⟨⟩
      exact .inr ⟨not_not.mp hp, hl, rfl⟩
    · rintro (⟨hr, -⟩ | ⟨-, -, rfl⟩)
      · exact absurd hr hp
      · rfl
  · simp [not_not.mp hp, hl]

/-- What a step that answers a next state did: idled, reset, or carried out the decoded command. -/
theorem step_cases {s t : State} (h : step s = .next t) :
    (s.pending = [] ∧ t = s) ∨
      (∃ rest, s.pending = .reset :: rest ∧ t = resetCore { s with pending := rest }) ∨
      (∃ c rest i, s.pending = .command c :: rest ∧ decode c = .ok i ∧ exec i { s with pending := rest } = .next t) := by
  unfold step at h
  split at h
  · simp_all
  · simp_all
  · rename_i c rest hp
    cases hd : decode c <;> simp_all

/-- A legal round count is 12, 14 or 16 (R10). -/
theorem legalRounds_iff {n : BitVec 5} : legalRounds n = true ↔ n = 12 ∨ n = 14 ∨ n = 16 := by
  simp [legalRounds, or_assoc]

end Sys2Proof.Machine
end

