-- ==== Sys2Proof/Laws/PerInstr.lean ====
section
/-! SUPPORT. A family of laws with one lemma per command: the word a command is encoded to carries its opcode in bits 1..0 and zeros
in the reserved bits (R50, R51). -/

namespace Sys2Proof.Laws

/-- The word of `i` has OP = `opcode i` and all reserved bits zero. -/
def EncodedWord.Statement (i : Instr) : Prop := opField (encode i).cmd = opcode i ∧ reservedClear (encode i).cmd = true

theorem EncodedWord.init (ctxv keyv : Bool) (keyLen : Nat) (key : Vector Byte 32) :
    EncodedWord.Statement (.init ctxv keyv keyLen key) := by
  have h : ∀ b : BitVec 8, ∀ k c : Bool, opField (0#16 ++ b ++ 0#4 ++ BitVec.ofBool k ++ BitVec.ofBool c ++ 0#2) = 0#2 ∧
      reservedClear (0#16 ++ b ++ 0#4 ++ BitVec.ofBool k ++ BitVec.ofBool c ++ 0#2) = true := by decide
  exact h (BitVec.ofNat 8 keyLen) keyv ctxv

theorem EncodedWord.enc (din : Vector Byte 16) : EncodedWord.Statement (.enc din) := by
  have h : opField encRow.pattern = opcode (.enc din) ∧ reservedClear encRow.pattern = true := ⟨rfl, by decide⟩
  exact h

theorem EncodedWord.dec (din : Vector Byte 16) : EncodedWord.Statement (.dec din) := by
  have h : opField decRow.pattern = opcode (.dec din) ∧ reservedClear decRow.pattern = true := ⟨rfl, by decide⟩
  exact h

theorem EncodedWord.deinit : EncodedWord.Statement .deinit := by
  constructor <;> decide

end Sys2Proof.Laws
end

