-- ==== Sys2Proof/Tests/Slice0.lean ====
section
/-! SUPPORT. Small tests, their expected results from spec 95_test_vectors and the rules, and one witness for the hypotheses of each
statement of Certificates/Slice0/Obligations.lean that has any. -/

namespace Sys2Proof.Tests

open Sys2Proof.Machine

/-! ## Helpers -/

/-- The key bytes `00 01 .. 1f` of spec 95 section 2. -/
def countingKey : Vector Byte 32 := Vector.ofFn fun i => BitVec.ofNat 8 i.val

/-- The block `00112233445566778899aabbccddeeff` of spec 95 E1. -/
def plainBytes : Vector Byte 16 := Vector.ofFn fun i => BitVec.ofNat 8 (17 * i.val)

/-- A READY context with the schedule of the given parameters and of the first `keyLen` bytes of `countingKey`. -/
def readyWith (p : ScheduleParams) (keyLen : Nat) : State :=
  let w := intermediates (keyLeft countingKey) (keyRight countingKey keyLen) p
  let ek := encryptionKeys w
  { State.reset with
    nr := p.rounds, ek := ek, dk := decryptionKeys ek p.rounds.toNat (Vector.replicate 17 0), phase := .ready }

/-- A READY context of zero round keys, with 12 rounds and zero scratch. -/
def zeroReady : State :=
  { State.reset with
    nr := 12, ek := Vector.replicate 17 0, dk := Vector.replicate 17 0, phase := .ready,
    workW := Vector.replicate 4 0, workKL := 0, workKR := 0 }

/-- `zeroReady` with the given events to come. -/
def zeroReadyWith (events : List HostEvent) : State := { zeroReady with pending := events }

/-- Does the outcome answer a next state that has the property? -/
def nextHas (o : Host.Outcome State Fault Refusal) (p : State → Bool) : Bool :=
  match o with
  | .next t => p t
  | .fault _ => false
  | .refused _ => false

/-- Is the outcome the refusal for a context that is not initialised? -/
def isNotInitialised (o : Host.Outcome State Fault Refusal) : Bool :=
  match o with
  | .refused .contextNotInitialised => true
  | _ => false

/-! ## WellFormed: an ill-formed term for each check -/

/-- R53: a key length of 256 cannot be expressed. -/
theorem test_wellFormed_refuses_long_keyLen : (Instr.init true true 256 countingKey).wellFormed = false := by decide
theorem test_wellFormed_accepts_255 : (Instr.init true true 255 countingKey).wellFormed = true := by decide
theorem test_asm_refuses_long_len : (AsmLine.init 256 none false).wellFormed = false := by decide
/-- R55: KEY has 32 bytes. -/
theorem test_asm_refuses_long_key : (AsmLine.init 16 (some (List.replicate 33 0)) false).wellFormed = false := by decide

/-! ## Decode: words written out from R52 and spec 95 section 4.6 -/

/-- R52's INIT pattern: `0000 0000 0000 0000 kkkk kkkk 0000 vc00` with k = 16, v = 1, c = 1 (V80). -/
theorem test_decode_init : decodeTableWord 32 0b00000000000000000001000000001100 = some (.init true true 16 zeroKey) := by decide
/-- V86: KEYV set, CTXV clear. -/
theorem test_decode_init_ctx_null : decodeTableWord 32 0x00001008 = some (.init false true 16 zeroKey) := by decide
theorem test_decode_enc : decodeTableWord 32 0b00000000000000000000000000000001 = some (.enc zeroDin) := by decide
theorem test_decode_dec : decodeTableWord 32 0b00000000000000000000000000000010 = some (.dec zeroDin) := by decide
theorem test_decode_deinit : decodeTableWord 32 0b00000000000000000000000000000011 = some .deinit := by decide
/-- V90, V94: OP = 1 with bit 2 set; reserved bit 31 set. -/
theorem test_decode_stray_bits : decodeTableWord 32 0x00000005 = none ∧ decodeTableWord 32 0x80000003 = none := by decide
/-- R61 and V56: `INIT len=20, key=null` assembles to 0x00001404. -/
theorem test_assemble_init_null : (assemble (.init 20 none false)).cmd = 0x00001404 := by decide

/-! ## Tables and round transforms (spec 95 sections 4.1, 4.2) -/

/-- The whole-ROM check of spec 95 section 4.1: 1072 bytes, XOR 0xcd, sum 136815. -/
theorem test_rom_checksums : romRows.length = 67 ∧ (List.range 1072).foldl (fun acc a => acc ^^^ romByte a) 0 = 0xcd ∧
    (List.range 1072).foldl (fun acc a => acc + (romByte a).toNat) 0 = 136815 := by decide +kernel
/-- V29. -/
theorem test_diffuse : diffuse 0xd415a75c794b85c5e0d2a0b3cb793bf6 = 0xd026c70ba68f762d524c5a6558f1e036 := by decide
/-- V39a. -/
theorem test_rol128 : rol128 0x80000000000000000000000000000001 109 = 0x00003000000000000000000000000000 := by decide

/-! ## The commands (spec 95 sections 2, 3, 4.3 to 4.5) -/

/-- Section 2.3: the 256-bit key's `nr`, `ek[0]`, `dk[15]`. -/
theorem test_init_256 : nextHas (exec (.init true true 32 countingKey) State.reset) (fun t =>
    t.nr == 16 && slot t.ek 0 == 0x8e3f60a1d7c8deae5de898e18e92dbac && slot t.dk 15 == 0x772cce8c5b4055fd75160b2faf0c9165) = true := by
  decide +kernel
/-- P4 step 2: after a 128-bit INIT on a context whose `dk[13]` holds a value, it still does, and `dk[12]` = `ek[0]` is section 2.1's. -/
theorem test_init_keeps_stale_slot : nextHas (exec (.init true true 16 countingKey) { zeroReady with dk := Vector.replicate 17 7 })
    (fun t => slot t.dk 13 == 7 && slot t.dk 12 == 0xd415a75c794b85c5e0d2a0b3cb793bf6) = true := by decide +kernel
/-- E1. -/
theorem test_enc_128 : nextHas (exec (.enc plainBytes) (readyWith ⟨12, 0, 4, 8⟩ 16))
    (fun t => load128 t.dout == 0xd718fbd6ab644c739da95f3be6451778) = true := by decide +kernel
/-- E2. -/
theorem test_enc_192 : nextHas (exec (.enc plainBytes) (readyWith ⟨14, 4, 8, 0⟩ 24))
    (fun t => load128 t.dout == 0x26449c1805dbe7aa25a468ce263a9e79) = true := by decide +kernel
/-- V62. -/
theorem test_dec_256 : nextHas (exec (.dec (store128 0xf92bd7c79fb72e2f2b8f80c1972d24fc)) (readyWith ⟨16, 8, 0, 4⟩ 32))
    (fun t => t.dout == plainBytes) = true := by decide +kernel
/-- V63: DEC is not ENC. -/
theorem test_dec_of_plain : nextHas (exec (.dec plainBytes) (readyWith ⟨12, 0, 4, 8⟩ 16))
    (fun t => load128 t.dout == 0x8095a522265661eac38c16be69e4ec37) = true := by decide +kernel
/-- V71: DEINIT after reset. -/
theorem test_deinit_after_reset : nextHas (exec .deinit State.reset) (fun t =>
    t.phase == .zeroised && t.nr == 0 && slot t.ek 16 == 0 && slot t.dk 16 == 0) = true := by decide
/-- V70: the working registers. -/
theorem test_deinit_clears_work : nextHas (exec .deinit (readyWith ⟨16, 8, 0, 4⟩ 32)) (fun t =>
    t.workS == 0 && t.workT == 0 && t.workKL == 0 && t.workW == Vector.replicate 4 0) = true := by decide
/-- V56: a null reference and an illegal length together. -/
theorem test_step_reports_invalid_parameter : nextHas (step (State.reset.withFetchWord 32 0x00001404)) (fun t =>
    t.response == some ⟨.invalidParameter, false⟩ && t.phase == .empty) = true := by decide
/-- V69b: ENC after reset. -/
theorem test_step_refuses_enc_after_reset : isNotInitialised (step (State.reset.withFetchWord 32 1)) = true := by decide

/-! ## Witnesses: states and operands that meet the hypotheses of the statements -/

theorem zeroReady_blockReady : zeroReady.BlockReady := ⟨rfl, rfl⟩

theorem zero_mirroredKeys : MirroredKeys (Vector.replicate 17 0) (Vector.replicate 17 0) 12 := by
  have h0 : diffuse 0 = 0 := by decide
  refine ⟨rfl, rfl, fun i _ _ => ?_⟩
  show slot (Vector.replicate 17 0#128) i = diffuse (slot (Vector.replicate 17 0#128) (12 - i))
  rw [slot_replicate_zero, slot_replicate_zero]
  exact h0.symm

theorem zeroReady_inv (events : List HostEvent) : (zeroReadyWith events).Inv := by
  refine ⟨fun _ => ⟨rfl, zero_mirroredKeys, rfl, rfl, rfl⟩, ?_, ?_⟩
  · intro h
    cases h
  · intro r h
    cases h

theorem witness_DecodeFollowsPatterns : (0x0000FF0C : Word) &&& 0xFFFF00F3 = 0x00000000 ∧ (1 : Word) &&& 0xFFFFFFFF = 1 ∧
    (2 : Word) &&& 0xFFFFFFFF = 2 ∧ (3 : Word) &&& 0xFFFFFFFF = 3 ∧
    ((0x10 : Word) &&& 0xFFFF00F3 ≠ 0 ∧ (0x10 : Word) ≠ 1 ∧ (0x10 : Word) ≠ 2 ∧ (0x10 : Word) ≠ 3) := by decide
theorem witness_DecodeOfEncode : (Instr.init false true 255 countingKey).wellFormed = true := by decide
theorem witness_DecodedWordIsEncodedWord : decode ⟨0x0000FF0C, zeroKey, zeroDin⟩ = .ok (.init true true 255 zeroKey) := by rfl
theorem witness_RowsDoNotOverlap : initRow ∈ opRows ∧ selectsRow initRow 0x0000FF0C = true ∧ deinitRow ∈ opRows ∧
    selectsRow deinitRow 3 = true := by decide
theorem witness_UnassignedWordsRefused : (∀ r ∈ opRows, selectsRow r 0x00000010 = false) ∧
    (∀ r ∈ opRows, selectsRow r 0x00000005 = false) ∧
    (zeroReadyWith [.command ⟨0x10, zeroKey, zeroDin⟩]).pending = .command ⟨0x10, zeroKey, zeroDin⟩ :: [] := by decide
theorem witness_AssembledLinesDecode : (255 < 256) := by decide
theorem witness_StepRunsDecodedCommand :
    (zeroReadyWith [.command ⟨3, zeroKey, zeroDin⟩]).pending = .command ⟨3, zeroKey, zeroDin⟩ :: [] ∧
    decodeTableWord 32 3 = some .deinit := by decide
theorem witness_IdleAndResetSteps : (zeroReadyWith []).pending = [] ∧ (zeroReadyWith [.reset]).pending = .reset :: [] := by decide
theorem witness_EventsTakenInOrder : (zeroReadyWith [.reset]).pending = .reset :: [] ∧
    nextHas (step (zeroReadyWith [.reset])) (fun _ => true) = true := by decide
theorem witness_StepRefusedExactly : nextHas (step zeroReady) (fun _ => true) = true := by decide
theorem witness_ResetLeavesEmpty : (zeroReadyWith [.reset, .reset]).pending = .reset :: [.reset] := rfl
theorem witness_SboxesInvertEachOther : (1 ≤ 1 ∧ 1 ≤ 4) ∧ (1 ≤ 4 ∧ 4 ≤ 4) := by decide
theorem witness_SboxLookupReadsRom : (1 ≤ 1 ∧ 1 ≤ 4) ∧ (1 ≤ 4 ∧ 4 ≤ 4) := by decide
theorem witness_RotationMovesBits : (127 < 128 ∧ 127 < 128) ∧ (1 ≤ 1 ∧ 1 < 128) ∧ (1 ≤ 127 ∧ 127 < 128) := by decide
theorem witness_RotationOnWords : (96 < 128 ∧ 96 % 32 = 0) ∧ (127 < 128 ∧ 127 % 32 ≠ 0) := by decide
theorem witness_ParameterSelection : ¬ LegalKeyLen 17 ∧ selectParams 16 = some ⟨12, 0, 4, 8⟩ := by
  exact ⟨by simp [LegalKeyLen], by decide⟩
theorem witness_KeyHalvesAndPadding : LegalKeyLen 24 ∧ (7 + 16 < 24) ∧ (24 ≤ 8 + 16) := by simp [LegalKeyLen]
theorem witness_InitWritesEncryptionKeys : selectParams 32 = some ⟨16, 8, 0, 4⟩ ∧ (1 ≤ 17 ∧ 17 ≤ 17) := by decide
theorem witness_LegalKeyLens : LegalKeyLen 16 ∧ LegalKeyLen 24 ∧ LegalKeyLen 32 := by simp [LegalKeyLen]
theorem witness_InitWritesDecryptionKeys : LegalKeyLen 16 ∧ (1 ≤ 11 ∧ 11 < 12) ∧ (12 < 13 ∧ 16 ≤ 16) := by simp [LegalKeyLen]
theorem witness_InitCompletes : selectParams 24 = some ⟨14, 4, 8, 0⟩ ∧ ¬ (true = true ∧ false = true ∧ LegalKeyLen 16) := by
  exact ⟨by decide, by simp⟩
theorem witness_FailedInitWritesNothing : (true = false ∨ false = false) ∧ ¬ LegalKeyLen 33 := by simp [LegalKeyLen]
theorem witness_InitIgnoresKeyTail : (∀ i : Fin 32, i.val < 16 → countingKey[i] = (countingKey.set 16 0xff)[i]) ∧
    countingKey ≠ countingKey.set 16 0xff := by decide
theorem witness_CryptRoundByRound : (1 ≤ 15 ∧ 15 % 2 = 1) ∧ (1 ≤ 2 ∧ 2 % 2 = 0) := by decide
theorem witness_CryptReadsSlotsUpToRounds : (∀ i : Fin 13, slot (Vector.replicate 17 0) i.val =
    slot ((Vector.replicate 17 0).set 13 1) i.val) ∧ slot ((Vector.replicate 17 0).set 13 1) 13 ≠ 0 := by decide
theorem witness_EncCompletes : zeroReady.BlockReady ∧ State.reset.phase ≠ .ready := ⟨zeroReady_blockReady, by decide⟩
theorem witness_DecCompletes : zeroReady.BlockReady ∧ State.reset.phase ≠ .ready := ⟨zeroReady_blockReady, by decide⟩
theorem witness_BlockCommandsNeedReady : State.reset.phase = .empty ∧ ({ zeroReady with phase := .zeroised }).phase = .zeroised := by
  decide
theorem witness_BlockCommandsCommute : zeroReady.BlockReady ∧ (∃ din, Instr.enc plainBytes = .enc din ∨ Instr.enc plainBytes = .dec din) ∧
    (∃ din, Instr.dec zeroDin = .enc din ∨ Instr.dec zeroDin = .dec din) :=
  ⟨zeroReady_blockReady, ⟨_, .inl rfl⟩, ⟨_, .inr rfl⟩⟩
theorem witness_CryptInvertsCrypt : (12 = 12 ∨ 12 = 14 ∨ 12 = 16) ∧
    MirroredKeys (Vector.replicate 17 0) (Vector.replicate 17 0) 12 := ⟨.inl rfl, zero_mirroredKeys⟩
theorem witness_WorkRegistersNeverMatter : zeroReady.SameButWork { zeroReady with workS := 1, workKL := 2, draws := 9 } ∧
    nextHas (exec (.enc plainBytes) zeroReady) (fun _ => true) = true ∧
    State.reset.SameButWork { State.reset with workS := 1 } ∧ isNotInitialised (exec (.enc plainBytes) State.reset) = true :=
  ⟨⟨⟨rfl, rfl, rfl, rfl⟩, rfl, rfl, rfl⟩, by decide, ⟨⟨rfl, rfl, rfl, rfl⟩, rfl, rfl, rfl⟩, by decide⟩
theorem witness_LifecycleTransitions : LegalKeyLen 32 ∧ ¬ (false = true ∧ true = true ∧ LegalKeyLen 32) ∧ zeroReady.BlockReady ∧
    State.reset.phase ≠ .ready :=
  ⟨.inr (.inr rfl), by simp, zeroReady_blockReady, by decide⟩
theorem witness_DeinitIsIdempotent : State.reset.phase ≠ .ready ∧ (∃ t, exec .deinit State.reset = .next t ∧ t.phase ≠ .ready) ∧
    (∃ t, exec (.init true true 16 zeroKey) State.reset = .next t ∧ t.phase = .ready) ∧ LegalKeyLen 16 :=
  ⟨by decide, ⟨_, rfl, by decide⟩, ⟨_, rfl, rfl⟩, .inl rfl⟩
theorem witness_InitEnablesBlockCommands : ¬ (true = true ∧ true = true ∧ LegalKeyLen 20) ∧ LegalKeyLen 24 := by simp [LegalKeyLen]
theorem witness_OnlyInitReportsErrors : ∃ t, exec (.init true true 0 zeroKey) State.reset = .next t ∧
    t.response = some ⟨.invalidKeyLength, false⟩ ∧ Status.invalidKeyLength ≠ .ok := ⟨_, rfl, rfl, by decide⟩
theorem witness_OutOfResourcesNeverReturned : ∃ t, exec .deinit State.reset = .next t := ⟨_, rfl⟩
theorem witness_DoutWrittenByBlockCommandsOnly : ∃ t, exec (.enc plainBytes) zeroReady = .next t := by
  have h : blockCommand zeroReady.ek plainBytes zeroReady = _ := blockCommand_eq_next.2 ⟨rfl, rfl, rfl⟩
  exact ⟨_, h⟩
theorem witness_ContextChangedOnlyBy : ∃ t, step (zeroReadyWith [.reset]) = .next t ∧ ¬ t.SameContext (zeroReadyWith [.reset]) := by
  refine ⟨_, rfl, ?_⟩
  rintro ⟨-, -, -, h⟩
  cases h
theorem witness_InvariantKept : ∃ t, (zeroReadyWith [.command ⟨3, zeroKey, zeroDin⟩]).Inv ∧
    step (zeroReadyWith [.command ⟨3, zeroKey, zeroDin⟩]) = .next t := ⟨_, zeroReady_inv _, rfl⟩

end Sys2Proof.Tests
end

/-! PROOFS. Byte order and operand forms (20_memory): the bytes of a word of a block (R30), LOAD32BE and STORE32BE (R31), LOAD128 and
STORE128 (R32). -/

namespace Sys2Proof.Machine

/-! ## Words and bytes of a block (R30) -/

/-- Byte `m` of word `j` of a block, counted from the most significant end of the word, is byte `4 j + m` of the block. -/
theorem extractLsb'_wordAt (x : Block) (j m : Fin 4) :
    (wordAt x j).extractLsb' (8 * (3 - m.val)) 8 = byteAt x (Fin.ofNat 16 (4 * j.val + m.val)) := by
  apply BitVec.eq_of_getLsbD_eq
  intro k hk
  have hword : 8 * (3 - m.val) + k < 32 := by omega
  have hbit : 32 * (3 - j.val) + (8 * (3 - m.val) + k) = 8 * (15 - (4 * j.val + m.val) % 16) + k := by omega
  simp only [BitVec.getLsbD_extractLsb', getLsbD_wordAt, getLsbD_byteAt, Fin.val_ofNat, hword, hbit, decide_true, Bool.true_and]

/-- Word `j` of a block built from four words is the `j`-th of them. -/
theorem wordAt_blockOfWords (w : Fin 4 → Word) (j : Fin 4) : wordAt (blockOfWords (w 0) (w 1) (w 2) (w 3)) j = w j := by
  apply BitVec.eq_of_getLsbD_eq
  intro k hk
  have hbit := getLsbD_blockOfWords_word w j.rev k hk
  rw [Fin.rev_rev, Fin.val_rev, show 4 - (j.val + 1) = 3 - j.val by omega] at hbit
  rw [getLsbD_wordAt, hbit, decide_eq_true hk, Bool.true_and]

/-- Word `j` of a block built from bytes is LOAD32BE of bytes `4 j` to `4 j + 3`. -/
theorem wordAt_blockOfBytes (b : Fin 16 → Byte) (j : Fin 4) : wordAt (blockOfBytes b) j = wordOfBytes b j := by
  rw [blockOfBytes_eq_words, wordAt_blockOfWords]

/-- The byte indices of `wordOfBytes` in the form the statements write them. -/
theorem wordOfBytes_eq_ofNat (b : Fin 16 → Byte) (j : Fin 4) :
    wordOfBytes b j = load32be (b (Fin.ofNat 16 (4 * j.val))) (b (Fin.ofNat 16 (4 * j.val + 1)))
      (b (Fin.ofNat 16 (4 * j.val + 2))) (b (Fin.ofNat 16 (4 * j.val + 3))) := by
  have hindex (k : Nat) (hk : k < 16) : (⟨k, hk⟩ : Fin 16) = Fin.ofNat 16 k := Fin.ext (Nat.mod_eq_of_lt hk).symm
  simp only [wordOfBytes, hindex]

/-- Settles O13: the four bytes are those of `extractLsb'_wordAt`, from the most significant. -/
theorem wordsAreBigEndianBytes : Obligations.WordsAreBigEndianBytes := by
  intro x j
  exact ⟨extractLsb'_wordAt x j 0, extractLsb'_wordAt x j 1, extractLsb'_wordAt x j 2, extractLsb'_wordAt x j 3⟩

/-! ## LOAD32BE and STORE32BE (R31) -/

/-- A concatenation as a number: the left operand is shifted past the right one. -/
theorem toNat_append_eq_add {m n : Nat} (x : BitVec m) (y : BitVec n) : (x ++ y).toNat = x.toNat * 2 ^ n + y.toNat := by
  rw [BitVec.toNat_append, ← Nat.shiftLeft_add_eq_or_of_lt y.isLt, Nat.shiftLeft_eq]

/-- LOAD32BE as the weighted sum of its bytes. -/
theorem toNat_load32be (b0 b1 b2 b3 : Byte) :
    (load32be b0 b1 b2 b3).toNat = b0.toNat * 2 ^ 24 + b1.toNat * 2 ^ 16 + b2.toNat * 2 ^ 8 + b3.toNat := by
  simp only [load32be, toNat_append_eq_add]
  omega

/-- The slice of LOAD32BE at byte `m`, counted from the most significant, is the `m`-th byte given. -/
theorem extractLsb'_load32be (b : Fin 4 → Byte) (m : Fin 4) :
    (load32be (b 0) (b 1) (b 2) (b 3)).extractLsb' (8 * (3 - m.val)) 8 = b m := by
  apply BitVec.eq_of_getLsbD_eq
  intro k hk
  have hbit := getLsbD_load32be_byte b m.rev k hk
  rw [Fin.rev_rev, Fin.val_rev, show 4 - (m.val + 1) = 3 - m.val by omega] at hbit
  rw [BitVec.getLsbD_extractLsb', hbit, decide_eq_true hk, Bool.true_and]

/-- STORE32BE gives back the bytes a word was loaded from. -/
@[simp] theorem store32be_load32be (b0 b1 b2 b3 : Byte) : store32be (load32be b0 b1 b2 b3) = (b0, b1, b2, b3) := by
  have hslice := extractLsb'_load32be ![b0, b1, b2, b3]
  exact Prod.ext (hslice 0) (Prod.ext (hslice 1) (Prod.ext (hslice 2) (hslice 3)))

/-- LOAD32BE of the slices STORE32BE makes of a word is the word: neighbouring slices join. -/
@[simp] theorem load32be_store32be (w : Word) :
    load32be (store32be w).1 (store32be w).2.1 (store32be w).2.2.1 (store32be w).2.2.2 = w := by
  simp only [load32be, store32be]
  rw [BitVec.extractLsb'_append_extractLsb'_eq_extractLsb' (by rfl), BitVec.extractLsb'_append_extractLsb'_eq_extractLsb' (by rfl),
    BitVec.extractLsb'_append_extractLsb'_eq_extractLsb' (by rfl), BitVec.extractLsb'_eq_self]

/-- Settles O14: the weighted sum, the slices (STORE32BE's definition), and the two inverses. -/
theorem wordLoadStoreInverse : Obligations.WordLoadStoreInverse :=
  ⟨fun b0 b1 b2 b3 => ⟨toNat_load32be b0 b1 b2 b3, store32be_load32be b0 b1 b2 b3⟩, fun w => ⟨rfl, load32be_store32be w⟩⟩

/-! ## LOAD128 and STORE128 (R32) -/

/-- Byte `i` of a loaded block is byte `i` of the buffer. -/
@[simp] theorem byteAt_load128 (b : Vector Byte 16) (i : Fin 16) : byteAt (load128 b) i = b[i] := byteAt_blockOfBytes _ i

/-- Byte `i` of a stored buffer is byte `i` of the block. -/
@[simp] theorem getElem_store128 (x : Block) (i : Nat) (h : i < 16) : (store128 x)[i] = byteAt x ⟨i, h⟩ := Vector.getElem_ofFn h

/-- Word `j` of a loaded block is LOAD32BE of bytes `4 j` to `4 j + 3` of the buffer. -/
theorem wordAt_load128 (b : Vector Byte 16) (j : Fin 4) : wordAt (load128 b) j = wordOfBytes (fun i => b[i]) j :=
  wordAt_blockOfBytes _ j

/-- Bytes `4 j` to `4 j + 3` of a block are STORE32BE of its word `j`. -/
theorem store32be_wordAt (x : Block) (j : Fin 4) :
    store32be (wordAt x j) = (byteAt x (Fin.ofNat 16 (4 * j.val)), byteAt x (Fin.ofNat 16 (4 * j.val + 1)),
      byteAt x (Fin.ofNat 16 (4 * j.val + 2)), byteAt x (Fin.ofNat 16 (4 * j.val + 3))) := by
  obtain ⟨h0, h1, h2, h3⟩ := wordsAreBigEndianBytes x j
  rw [store32be, h0, h1, h2, h3]

/-- A stored block loads back. -/
@[simp] theorem load128_store128 (x : Block) : load128 (store128 x) = x :=
  block_ext fun i => by rw [byteAt_load128, Fin.getElem_fin, getElem_store128]

/-- A loaded buffer stores back. -/
@[simp] theorem store128_load128 (b : Vector Byte 16) : store128 (load128 b) = b := by
  apply Vector.ext
  intro i hi
  rw [getElem_store128, byteAt_load128, Fin.getElem_fin]

/-- Settles O15: bytes, then words, of LOAD128 and of STORE128, and the two inverses. -/
theorem blockLoadStoreInverse : Obligations.BlockLoadStoreInverse := by
  refine ⟨byteAt_load128, fun b j => ?_, fun x i => getElem_store128 x i i.isLt, fun x j => ?_, store128_load128, load128_store128⟩
  · rw [wordAt_load128, wordOfBytes_eq_ofNat]
  · simp only [Fin.getElem_fin, getElem_store128, Fin.eta]
    exact store32be_wordAt x j

end Sys2Proof.Machine

/-! PROOFS. Command words (30_encoding): the words that select each row as conditions on their fields (R50, R52), what each decodes to
(R52), and the words of no row (R58). -/

namespace Sys2Proof

/-! ## The words of each row by their fields (R50, R52) -/

/-- A field is zero when each of its bits is. -/
theorem extractLsb'_eq_zero_iff {n : Nat} (w : BitVec n) (start len : Nat) :
    w.extractLsb' start len = 0 ↔ ∀ k < len, w.getLsbD (start + k) = false := by
  constructor
  · intro h k hk
    have hbit := congrArg (·.getLsbD k) h
    simpa [hk] using hbit
  · intro h
    apply BitVec.eq_of_getLsbD_eq
    intro k hk
    simp [hk, h k hk]

theorem reservedClear_iff (w : Word) : reservedClear w = true ↔ w.extractLsb' 16 16 = 0 ∧ w.extractLsb' 4 4 = 0 := by
  simp only [reservedClear, Bool.and_eq_true, beq_iff_eq]

/-- The bits INIT's mask covers. -/
theorem getLsbD_initMask : ∀ k < 32, (0xFFFF00F3 : Word).getLsbD k = decide (16 ≤ k ∨ (4 ≤ k ∧ k < 8) ∨ k < 2) := by decide

/-- A word is in the INIT row when each of the bits its mask covers is zero. -/
theorem initMask_eq_zero_iff_bits (w : Word) :
    w &&& 0xFFFF00F3 = 0 ↔ ∀ k < 32, 16 ≤ k ∨ (4 ≤ k ∧ k < 8) ∨ k < 2 → w.getLsbD k = false := by
  rw [BitVec.eq_of_getLsbD_eq_iff]
  refine forall₂_congr fun k hk => ?_
  rw [BitVec.getLsbD_and, getLsbD_initMask k hk, BitVec.ofNat_eq_ofNat, BitVec.getLsbD_zero, Bool.and_eq_false_iff,
    decide_eq_false_iff_not, or_comm, ← imp_iff_not_or]

/-- The words of the INIT row: the bits its mask covers are the reserved fields and OP. -/
theorem initMask_eq_zero_iff (w : Word) : w &&& 0xFFFF00F3 = 0 ↔ reservedClear w = true ∧ opField w = 0 := by
  simp only [initMask_eq_zero_iff_bits, reservedClear_iff, opField, extractLsb'_eq_zero_iff]
  constructor
  · intro h
    exact ⟨⟨fun k hk => h _ (by omega) (by omega), fun k hk => h _ (by omega) (by omega)⟩,
      fun k hk => h _ (by omega) (by omega)⟩
  · rintro ⟨⟨hhigh, hmid⟩, hop⟩ k hk (h | ⟨h, h'⟩ | h)
    · simpa [h] using hhigh (k - 16) (by omega)
    · simpa [h] using hmid (k - 4) (by omega)
    · simpa using hop k h

/-- The three words of the other rows: OP is nonzero and stands alone. -/
theorem fixedWord_iff (w : Word) : (w = 1 ∨ w = 2 ∨ w = 3) ↔
    reservedClear w = true ∧ opField w ≠ 0 ∧ w.extractLsb' 2 14 = 0 := by
  have hw := w.isLt
  rw [reservedClear_iff, opField]
  simp only [← BitVec.toNat_inj, ne_eq, BitVec.extractLsb'_toNat, Nat.shiftRight_eq_div_pow, BitVec.ofNat_eq_ofNat,
    BitVec.toNat_ofNat]
  omega

/-- A word of no row is outside the pattern of INIT and none of the words 1, 2 and 3. -/
theorem selectsRow_none_iff (w : Word) : (∀ r ∈ opRows, selectsRow r w = false) ↔
    ¬ w &&& 0xFFFF00F3 = 0 ∧ ¬ (w = 1 ∨ w = 2 ∨ w = 3) := by
  simp [opRows, ← Bool.not_eq_true]

/-! ## What a word decodes to (R52) -/

theorem decode_of_initMask {c : Command} (h : c.cmd &&& 0xFFFF00F3 = 0) :
    decode c = .ok (.init (ctxvField c.cmd) (keyvField c.cmd) (keyLenField c.cmd) c.key) := by
  rw [decode, if_pos ((selectsRow_initRow _).mpr h)]

theorem decode_of_cmd_one {c : Command} (h : c.cmd = 1) : decode c = .ok (.enc c.din) := by
  simp [decode, h]

theorem decode_of_cmd_two {c : Command} (h : c.cmd = 2) : decode c = .ok (.dec c.din) := by
  simp [decode, h]

theorem decode_of_cmd_three {c : Command} (h : c.cmd = 3) : decode c = .ok .deinit := by
  simp [decode, h]

/-- The decoder rejects exactly the words of no row. -/
theorem exists_decode_eq_error_iff {c : Command} : (∃ e, decode c = .error e) ↔ ∀ r ∈ opRows, selectsRow r c.cmd = false := by
  rw [selectsRow_none_iff]
  constructor
  · rintro ⟨e, he⟩
    have hnot (i : Instr) : decode c ≠ .ok i := by simp [he]
    refine ⟨fun h => hnot _ (decode_of_initMask h), ?_⟩
    rintro (h | h | h)
    · exact hnot _ (decode_of_cmd_one h)
    · exact hnot _ (decode_of_cmd_two h)
    · exact hnot _ (decode_of_cmd_three h)
  · rintro ⟨hinit, hfixed⟩
    cases hd : decode c with
    | error e => exact ⟨e, rfl⟩
    | ok i =>
      have hrow : c.cmd &&& 0xFFFF00F3 = 0 ∨ c.cmd = 1 ∨ c.cmd = 2 ∨ c.cmd = 3 :=
        (decode_cases hd).imp And.left (Or.imp And.left (Or.imp And.left And.left))
      exact (hrow.elim hinit hfixed).elim

end Sys2Proof

namespace Sys2Proof.Machine

/-- Settles O2: one decoding lemma for each row, and `exists_decode_eq_error_iff` for the words of none. -/
theorem decodeFollowsPatterns : Obligations.DecodeFollowsPatterns := by
  intro c
  simp only [and_fullMask]
  refine ⟨decode_of_initMask, decode_of_cmd_one, decode_of_cmd_two, decode_of_cmd_three, fun h0 h1 h2 h3 => ?_⟩
  have hfixed : ¬ (c.cmd = 1 ∨ c.cmd = 2 ∨ c.cmd = 3) := by simp only [h1, h2, h3, or_self, not_false_eq_true]
  exact exists_decode_eq_error_iff.mpr ((selectsRow_none_iff _).mpr ⟨h0, hfixed⟩)

/-! ## The words of no row (R58) -/

/-- A step refuses a command the decoder rejects, with the decoder's reason. -/
theorem step_of_decode_error {s : State} {c : Command} {rest : List HostEvent} {e : DecodeError}
    (hp : s.pending = .command c :: rest) (hd : decode c = .error e) : step s = .refused (.unassignedCommand e) := by
  simp only [step, hp, hd]

/-- Settles O6: a row is selected when the reserved bits are zero and OP is 0, or OP is not 0 and stands alone; the step refuses what
the decoder rejects. -/
theorem unassignedWordsRefused : Obligations.UnassignedWordsRefused := by
  intro c
  constructor
  · rw [selectsRow_none_iff, initMask_eq_zero_iff, fixedWord_iff, reservedClear_iff, opField]
    tauto
  · intro hnone s rest hp
    obtain ⟨e, hd⟩ := exists_decode_eq_error_iff.mpr hnone
    exact ⟨e, step_of_decode_error hp hd⟩

end Sys2Proof.Machine

/-! PROOFS. The ROM's lookups (40_primitive_tables): an S-box entry and a constant word as the ROM bytes they are (R66, R72, R73), and
the inverse relations of the four tables (R65). -/

namespace Sys2Proof.Machine

/-! ## The S-boxes (R65, R66) -/

/-- SB1 begins the ROM, so an S-box entry's address is `256 (t - 1) + x` (R34, R66). -/
theorem sb_eq_romByte (t : Nat) (x : Byte) : sb t x = romByte (256 * (t - 1) + x.toNat) := by
  rw [sb, Config.romBaseSB, Nat.zero_add]

/-- The printed contents of SB3 undo those of SB1, read entry by entry (R67, R69). -/
theorem leftInverse_sb3_sb1 : Function.LeftInverse (sb 3) (sb 1) := by
  unfold Function.LeftInverse
  decide +kernel

/-- The printed contents of SB4 undo those of SB2, read entry by entry (R68, R70). -/
theorem leftInverse_sb4_sb2 : Function.LeftInverse (sb 4) (sb 2) := by
  unfold Function.LeftInverse
  decide +kernel

/-- Settles O16: SB3 undoes SB1 and SB4 undoes SB2; there are finitely many bytes, so each is also undone the other way round, and all
four are permutations. -/
theorem sboxesInvertEachOther : Obligations.SboxesInvertEachOther := by
  have hsb1 : Function.RightInverse (sb 3) (sb 1) := leftInverse_sb3_sb1.rightInverse_of_card_le le_rfl
  have hsb2 : Function.RightInverse (sb 4) (sb 2) := leftInverse_sb4_sb2.rightInverse_of_card_le le_rfl
  refine ⟨fun t hlow hhigh => ?_, fun b => ⟨leftInverse_sb3_sb1 b, hsb1 b, leftInverse_sb4_sb2 b, hsb2 b⟩⟩
  obtain rfl | rfl | rfl | rfl : t = 1 ∨ t = 2 ∨ t = 3 ∨ t = 4 := by omega
  · exact ⟨leftInverse_sb3_sb1.injective, hsb1.surjective⟩
  · exact ⟨leftInverse_sb4_sb2.injective, hsb2.surjective⟩
  · exact ⟨hsb1.injective, leftInverse_sb3_sb1.surjective⟩
  · exact ⟨hsb2.injective, leftInverse_sb4_sb2.surjective⟩

/-- Settles O17: the address is `sb_eq_romByte`; the entries listed are read off the printed tables. -/
theorem sboxLookupReadsRom : Obligations.SboxLookupReadsRom :=
  ⟨fun t x _ _ => sb_eq_romByte t x, by decide⟩

/-! ## The constants (R72, R73) -/

/-- Word `j` of the constants is LOAD32BE of the four ROM bytes at `0x400 + 4 j` (R34, R72). -/
theorem cword_eq_load32be (j : Nat) : cword j =
    load32be (romByte (0x400 + 4 * j)) (romByte (0x400 + 4 * j + 1)) (romByte (0x400 + 4 * j + 2)) (romByte (0x400 + 4 * j + 3)) :=
  rfl

/-- Word `j` after `off` is word `j` of the sixteen ROM bytes at `0x400 + 4 off`. -/
theorem cword_add (off : Nat) (j : Fin 4) :
    cword (off + j.val) = wordOfBytes (fun i => romByte (0x400 + 4 * off + i.val)) j := by
  simp only [cword_eq_load32be, wordOfBytes, Nat.mul_add, Nat.add_assoc]

/-- CK at any offset is the sixteen ROM bytes at `0x400 + 4 off` (R73). -/
theorem ck_eq_blockOfBytes (off : Nat) : ck off = blockOfBytes fun i => romByte (0x400 + 4 * off + i.val) := by
  rw [blockOfBytes_eq_words, ← cword_add, ← cword_add, ← cword_add, ← cword_add]
  rfl

/-- Settles O19: addresses by `cword_eq_load32be` and `ck_eq_blockOfBytes`; the values listed are read off the printed words. -/
theorem constantsReadRom : Obligations.ConstantsReadRom :=
  ⟨cword_eq_load32be, by decide, fun off _ => ⟨rfl, ck_eq_blockOfBytes off⟩, by decide⟩

end Sys2Proof.Machine

/-! PROOFS. Round transforms (41_round_transforms): XOR128 by bytes, words and bits (R80), the bytes of SL1 and SL2 (R81, R82), A by its
matrix (R84), the two round functions (R87, R88) and the bits of ROL128 (R90). -/

namespace Sys2Proof.Machine

/-! ## XOR128 (R80) -/

@[simp] theorem byteAt_xor128 (x y : Block) (i : Fin 16) : byteAt (xor128 x y) i = byteAt x i ^^^ byteAt y i := byteAt_xor x y i

@[simp] theorem wordAt_xor128 (x y : Block) (j : Fin 4) : wordAt (xor128 x y) j = wordAt x j ^^^ wordAt y j :=
  BitVec.extractLsb'_xor

@[simp] theorem getLsbD_xor128 (x y : Block) (k : Nat) : (xor128 x y).getLsbD k = (x.getLsbD k ^^ y.getLsbD k) :=
  BitVec.getLsbD_xor

@[simp] theorem xor128_self (x : Block) : xor128 x x = 0#128 := BitVec.xor_self

@[simp] theorem xor128_zero (x : Block) : xor128 x 0#128 = x := BitVec.xor_zero

/-- Settles O20: one lemma for each of the three views and the two corner cases; the worked example is computed. -/
theorem xorIsBytewise : Obligations.XorIsBytewise :=
  ⟨byteAt_xor128, wordAt_xor128, getLsbD_xor128, fun x => ⟨xor128_self x, xor128_zero x⟩, by decide⟩

/-! ## SL1 and SL2 (R81, R82) -/

@[simp] theorem byteAt_sl1 (x : Block) (i : Fin 16) : byteAt (sl1 x) i = sb (i.val % 4 + 1) (byteAt x i) :=
  byteAt_blockOfBytes _ i

@[simp] theorem byteAt_sl2 (x : Block) (i : Fin 16) : byteAt (sl2 x) i = sb ((i.val + 2) % 4 + 1) (byteAt x i) :=
  byteAt_blockOfBytes _ i

/-- Settles O21: the two layers byte by byte; the blocks listed are computed from the printed tables. -/
theorem substitutionLayerBytes : Obligations.SubstitutionLayerBytes :=
  ⟨byteAt_sl1, byteAt_sl2, by decide⟩

/-! ## A (R84) -/

/-- The byte-set of row `i` is the columns where the matrix has a one, in order: the rule's two tables are one. -/
theorem diffusionSet_eq_filter (i : Fin 16) : diffusionSet i = (List.finRange 16).filter (diffusionMatrix i) := by
  revert i
  decide

theorem mem_diffusionSet_iff (i j : Fin 16) : j ∈ diffusionSet i ↔ diffusionMatrix i j = true := by
  simp only [diffusionSet_eq_filter, List.mem_filter, List.mem_finRange, true_and]

@[simp] theorem length_diffusionSet (i : Fin 16) : (diffusionSet i).length = 7 := by
  revert i
  decide

/-- Byte `i` of A folds the bytes of its byte-set. -/
theorem byteAt_diffuse (x : Block) (i : Fin 16) :
    byteAt (diffuse x) i = (diffusionSet i).foldl (fun acc j => acc ^^^ byteAt x j) 0 := byteAt_blockOfBytes _ i

/-- Byte `i` of A by row `i` of the matrix: folding a filtered list skips what the filter drops. -/
theorem byteAt_diffuse_eq_matrix (x : Block) (i : Fin 16) : byteAt (diffuse x) i =
    (List.finRange 16).foldl (fun acc j => if diffusionMatrix i j then acc ^^^ byteAt x j else acc) 0 := by
  rw [byteAt_diffuse, diffusionSet_eq_filter, List.foldl_filter]

/-- A keeps a block of equal bytes: a row has seven ones, and seven times the exclusive or with `v` is once. -/
theorem diffuse_equalBytes (v : Byte) : diffuse (blockOfBytes fun _ => v) = blockOfBytes fun _ => v := by
  refine block_ext fun i => ?_
  have hodd : Odd (diffusionSet i).length := by
    rw [length_diffusionSet]
    decide
  simp only [byteAt_diffuse, byteAt_blockOfBytes]
  rw [List.foldl_const, (xor_left_involutive v).iterate_odd hodd]
  exact BitVec.zero_xor

@[simp] theorem diffuse_zero : diffuse 0#128 = 0#128 := diffuse_equalBytes 0

/-- Settles O24: the matrix form, the two tables and the two kept blocks by the lemmas above; the other two blocks are computed. -/
theorem diffusionFollowsMatrix : Obligations.DiffusionFollowsMatrix :=
  ⟨byteAt_diffuse_eq_matrix, mem_diffusionSet_iff, diffuse_zero, diffuse_equalBytes, by decide⟩

/-! ## The round functions (R87, R88) -/

theorem oddRound_eq (d rk : Block) : oddRound d rk = diffuse (sl1 (xor128 d rk)) := rfl

theorem evenRound_eq (d rk : Block) : evenRound d rk = diffuse (sl2 (xor128 d rk)) := rfl

/-- Settles O27: each round function is its three transforms in turn; the blocks listed are computed. -/
theorem roundFunctions : Obligations.RoundFunctions :=
  ⟨fun d rk => ⟨oddRound_eq d rk, evenRound_eq d rk⟩, by decide⟩

/-! ## ROL128 (R90) -/

@[simp] theorem rol128_zero (x : Block) : rol128 x 0 = x := rfl

/-- ROL128 is the library's rotation, for every amount the rule allows. -/
theorem rol128_eq_rotateLeft (x : Block) {n : Nat} (hn : n < 128) : rol128 x n = x.rotateLeft n := by
  rcases Nat.eq_zero_or_pos n with rfl | hpos
  · simp [BitVec.rotateLeft_def, BitVec.ushiftRight_eq_zero]
  · rw [rol128, if_neg hpos.ne', BitVec.rotateLeft_def, Nat.mod_eq_of_lt hn]

/-- Bit `k` moves to bit `(k + n) mod 128`: up by `n`, or past the top and on from bit 0. -/
theorem getLsbD_rol128 (x : Block) {n k : Nat} (hn : n < 128) (hk : k < 128) :
    (rol128 x n).getLsbD ((k + n) % 128) = x.getLsbD k := by
  rw [rol128_eq_rotateLeft x hn, BitVec.getLsbD_rotateLeft_of_le hn]
  rcases Nat.lt_or_ge (k + n) 128 with hfits | hwraps
  · have hbit : (k + n) % 128 = k + n := Nat.mod_eq_of_lt hfits
    simp [hbit, hfits]
  · have hbit : (k + n) % 128 = k + n - 128 := by omega
    have hbelow : k + n - 128 < n := by omega
    have hsource : 128 - n + (k + n - 128) = k := by omega
    simp [hbit, hbelow, hsource]

/-- ROL128 as a number: the part shifted down fits, so the remainder modulo `2^128` is the other part's alone. -/
theorem toNat_rol128 (x : Block) {n : Nat} (hn : n < 128) :
    (rol128 x n).toNat = (x.toNat * 2 ^ n ||| x.toNat / 2 ^ (128 - n)) % 2 ^ 128 := by
  have hlow : x.toNat / 2 ^ (128 - n) < 2 ^ 128 := (Nat.div_le_self _ _).trans_lt x.isLt
  rw [rol128_eq_rotateLeft x hn, BitVec.toNat_rotateLeft, Nat.mod_eq_of_lt hn, Nat.shiftLeft_eq, Nat.shiftRight_eq_div_pow,
    Nat.or_mod_two_pow, Nat.mod_eq_of_lt hlow]

/-- Settles O28: bits by `getLsbD_rol128`, the shift formula by `toNat_rol128`; the blocks listed are computed. -/
theorem rotationMovesBits : Obligations.RotationMovesBits :=
  ⟨fun x _ _ hn hk => getLsbD_rol128 x hn hk, fun x _ _ hn => toNat_rol128 x hn, rol128_zero, by decide⟩

end Sys2Proof.Machine

/-! PROOFS. The key schedule (42_key_schedule): the bytes of KL and KR (R103), the intermediates (R104), the round keys slot by slot
(R105 to R107), and what INIT writes when its checks pass and when one fails (R108, R109). -/

namespace Sys2Proof.Machine

/-! ## The key halves (R103) -/

@[simp] theorem byteAt_keyLeft (key : Vector Byte 32) (i : Fin 16) : byteAt (keyLeft key) i = key[i.val] := byteAt_blockOfBytes _ i

@[simp] theorem byteAt_keyRight (key : Vector Byte 32) (keyLen : Nat) (i : Fin 16) :
    byteAt (keyRight key keyLen) i = if i.val < keyLen - 16 then key[16 + i.val] else 0 := byteAt_blockOfBytes _ i

/-- Settles O31: byte `i` of KR is padding when key byte `16 + i` is past the length. -/
theorem keyHalvesAndPadding : Obligations.KeyHalvesAndPadding := by
  intro key keyLen i _
  refine ⟨byteAt_keyLeft key i, fun hkey => ?_, fun hpad => ?_⟩
  · rw [byteAt_keyRight, if_pos (by omega)]
  · rw [byteAt_keyRight, if_neg (by omega)]

/-! ## The intermediates (R104) -/

/-- Settles O32: each intermediate is, by definition, the rule's formula in those before it. -/
theorem intermediatesChain : Obligations.IntermediatesChain := fun _ _ _ => ⟨rfl, rfl, rfl, rfl⟩

/-! ## The round keys (R105 to R107) -/

/-- The round key of round `r` with the two intermediates looked up as the statements do; a remainder modulo 4 is in range. -/
theorem roundKey_eq_getElem! (w : Vector Block 4) (r : Nat) :
    roundKey w r = xor128 (rol128 w[r % 4]! (rotationAmount r)) w[(r - 1) % 4]! := by
  rw [roundKey, getElem!_pos, getElem!_pos]

/-- Slot `r - 1` of `ek` is the key of round `r`. -/
theorem slot_encryptionKeys (w : Vector Block 4) {r : Nat} (hpos : 1 ≤ r) (hle : r ≤ 17) :
    slot (encryptionKeys w) (r - 1) = roundKey w r := by
  rw [slot_of_lt _ (by omega), encryptionKeys, Vector.getElem_ofFn, Nat.sub_add_cancel hpos]

section
variable (ek old : Vector Block 17) {n i : Nat}

theorem slot_decryptionKeys (hi : i < 17) : slot (decryptionKeys ek n old) i =
    if i = 0 then slot ek n else if i < n then diffuse (slot ek (n - i)) else if i = n then slot ek 0 else slot old i := by
  rw [slot_of_lt _ hi, decryptionKeys, Vector.getElem_ofFn]

theorem slot_decryptionKeys_first : slot (decryptionKeys ek n old) 0 = slot ek n := by
  rw [slot_decryptionKeys ek old (by decide), if_pos rfl]

theorem slot_decryptionKeys_middle (hpos : 1 ≤ i) (hlt : i < n) (hn : n ≤ 16) :
    slot (decryptionKeys ek n old) i = diffuse (slot ek (n - i)) := by
  rw [slot_decryptionKeys ek old (by omega), if_neg (by omega), if_pos hlt]

theorem slot_decryptionKeys_last (hn : n ≤ 16) : slot (decryptionKeys ek n old) n = slot ek 0 := by
  rw [slot_decryptionKeys ek old (by omega), if_neg (lt_irrefl n), if_pos (rfl : n = n), ite_eq_right_iff]
  rintro rfl
  rfl

theorem slot_decryptionKeys_above (hlt : n < i) (hi : i ≤ 16) : slot (decryptionKeys ek n old) i = slot old i := by
  rw [slot_decryptionKeys ek old (by omega), if_neg (by omega), if_neg (by omega), if_neg (by omega)]

end

/-! ## The parameters (R101) -/

theorem exists_selectParams_iff {keyLen : Nat} : (∃ p, selectParams keyLen = some p) ↔ LegalKeyLen keyLen := by
  rw [← Option.ne_none_iff_exists', ne_eq, selectParams_eq_none, LegalKeyLen]
  tauto

/-- The round counts of R101's three rows in closed form. -/
theorem rounds_of_selectParams {keyLen : Nat} {p : ScheduleParams} (h : selectParams keyLen = some p) :
    p.rounds.toNat = keyLen / 4 + 8 := by
  rcases selectParams_eq_some.mp h with ⟨rfl, rfl⟩ | ⟨rfl, rfl⟩ | ⟨rfl, rfl⟩ <;> rfl

theorem rounds_le_of_selectParams {keyLen : Nat} {p : ScheduleParams} (h : selectParams keyLen = some p) : p.rounds.toNat ≤ 16 := by
  rcases selectParams_eq_some.mp h with ⟨-, rfl⟩ | ⟨-, rfl⟩ | ⟨-, rfl⟩ <;> decide

/-! ## What INIT writes (R100, R108, R109) -/

section
variable (p : ScheduleParams) (key : Vector Byte 32) (keyLen : Nat) (s : State)

@[simp] theorem expandKey_nr : (expandKey p key keyLen s).nr = p.rounds := rfl
@[simp] theorem expandKey_ek : (expandKey p key keyLen s).ek = encryptionKeys (intermediates (keyLeft key) (keyRight key keyLen) p) := rfl
@[simp] theorem expandKey_dk :
    (expandKey p key keyLen s).dk = decryptionKeys (expandKey p key keyLen s).ek p.rounds.toNat s.dk := rfl
@[simp] theorem expandKey_phase : (expandKey p key keyLen s).phase = .ready := rfl
@[simp] theorem expandKey_response : (expandKey p key keyLen s).response = some ⟨.ok, false⟩ := rfl
@[simp] theorem expandKey_workW : (expandKey p key keyLen s).workW = Vector.replicate 4 0 := rfl
@[simp] theorem expandKey_workKL : (expandKey p key keyLen s).workKL = 0 := rfl
@[simp] theorem expandKey_workKR : (expandKey p key keyLen s).workKR = 0 := rfl
@[simp] theorem expandKey_workS : (expandKey p key keyLen s).workS = 0 := rfl
@[simp] theorem expandKey_workT : (expandKey p key keyLen s).workT = 0 := rfl

variable {p key keyLen s}

/-- INIT with both references valid and a length of R101 expands the key. -/
theorem exec_init_of_selectParams (h : selectParams keyLen = some p) :
    exec (.init true true keyLen key) s = .next (expandKey p key keyLen s) := by
  have hcheck : initCheck true true keyLen = .ok p := initCheck_eq_ok.mpr ⟨rfl, rfl, h⟩
  simp only [exec, execInit, hcheck]

/-- INIT with a failed check raises the check's error. -/
theorem exec_init_of_initCheck_error {ctxv keyv : Bool} {e : Status} (h : initCheck ctxv keyv keyLen = .error e) :
    exec (.init ctxv keyv keyLen key) s = .next (raiseError e s) := by
  simp only [exec, execInit, h]

end

/-- INIT's check passes for valid references and a legal length only. -/
theorem exists_initCheck_eq_ok_iff {ctxv keyv : Bool} {keyLen : Nat} :
    (∃ p, initCheck ctxv keyv keyLen = .ok p) ↔ ctxv = true ∧ keyv = true ∧ LegalKeyLen keyLen := by
  simp only [initCheck_eq_ok, exists_and_left, exists_selectParams_iff]

/-- Settles O33: slot `r - 1` is the key of round `r`, whose rotation amount is the rule's. -/
theorem initWritesEncryptionKeys : Obligations.InitWritesEncryptionKeys := by
  intro s keyLen key p hp
  refine ⟨_, exec_init_of_selectParams hp, fun r hpos hle => ?_⟩
  rw [expandKey_ek, slot_encryptionKeys _ hpos hle, roundKey_eq_getElem!, rotationAmount]

/-- Settles O34: one lemma for each of the four kinds of slot, for a round count of at most 16. -/
theorem initWritesDecryptionKeys : Obligations.InitWritesDecryptionKeys := by
  intro s keyLen key hlegal
  obtain ⟨p, hp⟩ := exists_selectParams_iff.mpr hlegal
  have hn : p.rounds.toNat ≤ 16 := rounds_le_of_selectParams hp
  refine ⟨_, exec_init_of_selectParams hp, ?_⟩
  rw [expandKey_dk, expandKey_nr]
  exact ⟨rounds_of_selectParams hp, slot_decryptionKeys_first _ _, fun i hpos hlt => slot_decryptionKeys_middle _ _ hpos hlt hn,
    slot_decryptionKeys_last _ _ hn, fun i hlt hi => slot_decryptionKeys_above _ _ hlt hi⟩

/-- Settles O35: an INIT whose check passes expands the key; of any other the check fails, and raising its error writes the response
alone. -/
theorem initCompletes : Obligations.InitCompletes := by
  constructor
  · intro s keyLen key p hp
    exact ⟨_, exec_init_of_selectParams hp, expandKey_nr .., expandKey_ek .., expandKey_dk .., expandKey_phase ..,
      expandKey_response .., expandKey_workW .., expandKey_workKL .., expandKey_workKR .., expandKey_workS .., expandKey_workT ..⟩
  · intro s ctxv keyv keyLen key hillegal
    cases hcheck : initCheck ctxv keyv keyLen with
    | error e => exact ⟨⟨e, false⟩, exec_init_of_initCheck_error hcheck⟩
    | ok p => exact absurd (exists_initCheck_eq_ok_iff.mp ⟨p, hcheck⟩) hillegal

end Sys2Proof.Machine

/-! PROOFS. The block transform (43_block_transform): the state in which a completed block command leaves the machine, when a block
command completes and when it is refused (R120, R127), and the two commands ENC and DEC (R121, R122, R124). -/

namespace Sys2Proof.Machine

/-! ## The answer of a block command (R120, R124) -/

/-- The state in which a completed block command with round-key file `rk` leaves the machine. -/
def blockAnswer (rk : Vector Block 17) (din : Vector Byte 16) (s : State) : State :=
  leaveWorkUnspecified (storeOutput (cryptInput rk (loadInput din s)))

section
variable (rk : Vector Block 17) (din : Vector Byte 16) (s : State)

@[simp] theorem blockAnswer_dout : (blockAnswer rk din s).dout = store128 (crypt rk s.nr.toNat (load128 din)) := rfl
@[simp] theorem blockAnswer_response : (blockAnswer rk din s).response = some ⟨.ok, true⟩ := rfl
@[simp] theorem blockAnswer_nr : (blockAnswer rk din s).nr = s.nr := rfl
@[simp] theorem blockAnswer_ek : (blockAnswer rk din s).ek = s.ek := rfl
@[simp] theorem blockAnswer_dk : (blockAnswer rk din s).dk = s.dk := rfl
@[simp] theorem blockAnswer_phase : (blockAnswer rk din s).phase = s.phase := rfl
@[simp] theorem blockAnswer_workW : (blockAnswer rk din s).workW = s.workW := rfl
@[simp] theorem blockAnswer_workKL : (blockAnswer rk din s).workKL = s.workKL := rfl
@[simp] theorem blockAnswer_workKR : (blockAnswer rk din s).workKR = s.workKR := rfl

/-! ## When a block command completes and when it is refused (R127) -/

variable {s}

theorem blockCommand_of_blockReady (h : s.BlockReady) : blockCommand rk din s = .next (blockAnswer rk din s) := by
  obtain ⟨hphase, hrounds⟩ := h
  exact blockCommand_eq_next.mpr ⟨hphase, hrounds, rfl⟩

theorem blockCommand_of_phase_ne_ready (h : s.phase ≠ .ready) : blockCommand rk din s = .refused .contextNotInitialised :=
  blockCommand_eq_refused.mpr (.inl ⟨h, rfl⟩)

variable (s)

/-- ENC and DEC at once: the round-key file is all that tells the two directions apart (R122). -/
theorem blockCommand_completes :
    (s.BlockReady →
      ∃ t, blockCommand rk din s = .next t ∧
        t.dout = store128 (crypt rk s.nr.toNat (load128 din)) ∧ t.response = some ⟨.ok, true⟩ ∧
        t.nr = s.nr ∧ t.ek = s.ek ∧ t.dk = s.dk ∧ t.phase = s.phase ∧
        t.workW = s.workW ∧ t.workKL = s.workKL ∧ t.workKR = s.workKR) ∧
    (s.phase ≠ .ready → blockCommand rk din s = .refused .contextNotInitialised) := by
  constructor
  · intro hready
    exact ⟨_, blockCommand_of_blockReady rk din hready, by simp⟩
  · exact blockCommand_of_phase_ne_ready rk din

/-! ## The two commands (R121, R122) -/

theorem exec_enc : exec (.enc din) s = blockCommand s.ek din s := rfl

theorem exec_dec : exec (.dec din) s = blockCommand s.dk din s := rfl

end

/-- Settles O43: ENC is the block command with the file `ek`. -/
theorem encCompletes : Obligations.EncCompletes := by
  intro s din
  rw [exec_enc]
  exact blockCommand_completes s.ek din s

/-- Settles O44: DEC is the block command with the file `dk`. -/
theorem decCompletes : Obligations.DecCompletes := by
  intro s din
  rw [exec_dec]
  exact blockCommand_completes s.dk din s

/-- Settles O45: neither phase is READY, and outside READY a block command is refused whatever its round-key file. -/
theorem blockCommandsNeedReady : Obligations.BlockCommandsNeedReady := by
  intro s din hphase
  have hnot : s.phase ≠ .ready := by rcases hphase with h | h <;> simp [h]
  rw [exec_enc, exec_dec]
  exact ⟨blockCommand_of_phase_ne_ready _ _ hnot, blockCommand_of_phase_ne_ready _ _ hnot⟩

end Sys2Proof.Machine

/-! PROOFS. The lifecycle (44_context_lifecycle): the state in which DEINIT leaves the machine (R136), and which commands make a
context READY that was not (R137). -/

namespace Sys2Proof.Machine

/-! ## The answer of DEINIT (R136) -/

/-- The state in which DEINIT leaves the machine. -/
def deinitAnswer (s : State) : State := respond .ok (setPhase .zeroised (zeroiseWork (zeroiseContext s)))

theorem exec_deinit (s : State) : exec .deinit s = .next (deinitAnswer s) := rfl

@[simp] theorem deinitAnswer_phase (s : State) : (deinitAnswer s).phase = .zeroised := rfl
@[simp] theorem deinitAnswer_response (s : State) : (deinitAnswer s).response = some ⟨.ok, false⟩ := rfl

theorem deinitAnswer_rawZero (s : State) : (deinitAnswer s).RawZero := ⟨rfl, rfl, rfl, ⟨rfl, rfl, rfl⟩, rfl, rfl⟩

/-- DEINIT writes constants only, none of them read from the state. -/
@[simp] theorem deinitAnswer_deinitAnswer (s : State) : deinitAnswer (deinitAnswer s) = deinitAnswer s := rfl

/-- Settles O50: the answer's raw view is zero, so each slot of its key files is. -/
theorem deinitCompletes : Obligations.DeinitCompletes := by
  intro s
  obtain ⟨hnr, hek, hdk, ⟨hW, hKL, hKR⟩, hS, hT⟩ := deinitAnswer_rawZero s
  have hslots : ∀ i : Nat, i ≤ 16 → slot (deinitAnswer s).ek i = 0 ∧ slot (deinitAnswer s).dk i = 0 := by
    intro i _
    rw [hek, hdk]
    exact ⟨slot_replicate_zero i, slot_replicate_zero i⟩
  exact ⟨_, exec_deinit s, hnr, hslots, hW, hKL, hKR, hS, hT, deinitAnswer_phase s, deinitAnswer_response s⟩

/-! ## Which commands make the context READY (R137) -/

/-- An INIT leaves READY a context that was not exactly when its check passes: a failed check leaves the phase as it was. -/
theorem execInit_phase_eq_ready_iff {ctxv keyv : Bool} {keyLen : Nat} {key : Vector Byte 32} {s t : State} (hs : s.phase ≠ .ready)
    (h : execInit ctxv keyv keyLen key s = .next t) : t.phase = .ready ↔ ∃ p, initCheck ctxv keyv keyLen = .ok p := by
  rcases execInit_cases h with ⟨e, hcheck, rfl⟩ | ⟨p, hcheck, rfl⟩
  · simp [hcheck, hs]
  · simp [hcheck]

theorem blockCommand_ne_next_of_phase_ne_ready {rk : Vector Block 17} {din : Vector Byte 16} {s t : State} (hs : s.phase ≠ .ready) :
    blockCommand rk din s ≠ .next t := fun h => hs (blockCommand_eq_next.mp h).1

/-- From a context that is not READY, block commands do not complete and DEINIT leaves ZEROISED, so INIT alone can leave READY. -/
theorem exec_phase_eq_ready_iff {i : Instr} {s t : State} (hs : s.phase ≠ .ready) (h : exec i s = .next t) :
    t.phase = .ready ↔ ∃ keyLen key, LegalKeyLen keyLen ∧ i = .init true true keyLen key := by
  cases i with
  | init ctxv keyv keyLen key =>
    rw [execInit_phase_eq_ready_iff hs h, exists_initCheck_eq_ok_iff]
    constructor
    · rintro ⟨rfl, rfl, hlegal⟩
      exact ⟨keyLen, key, hlegal, rfl⟩
    · rintro ⟨_, _, hlegal, ⟨⟩⟩
      exact ⟨rfl, rfl, hlegal⟩
  | enc din => exact absurd h (blockCommand_ne_next_of_phase_ne_ready hs)
  | dec din => exact absurd h (blockCommand_ne_next_of_phase_ne_ready hs)
  | deinit =>
    obtain rfl : deinitAnswer s = t := by simpa [exec_deinit] using h
    simp

/-- Settles O51: DEINIT's answer is its own answer and is not READY, and outside READY a block command is refused; the second part is
the case split over the four commands. -/
theorem deinitIsIdempotent : Obligations.DeinitIsIdempotent := by
  refine ⟨fun s => ?_, fun s t i => exec_phase_eq_ready_iff⟩
  have hphase : (deinitAnswer s).phase ≠ .ready := by simp
  refine ⟨_, exec_deinit s, by rw [exec_deinit, deinitAnswer_deinitAnswer], hphase, fun din => ?_⟩
  rw [exec_enc, exec_dec]
  exact ⟨blockCommand_of_phase_ne_ready _ _ hphase, blockCommand_of_phase_ne_ready _ _ hphase⟩

end Sys2Proof.Machine

/-! PROOFS. Exceptions (60_exceptions): the errors INIT's check raises (R146, R147), that a command reports an error exactly where that
check fails (R153), and that a failed INIT writes its response alone (R149, R150). -/

namespace Sys2Proof.Machine

/-! ## The errors of INIT's check (R146, R147, R148) -/

theorem selectParams_eq_none_iff_not_legalKeyLen {keyLen : Nat} : selectParams keyLen = none ↔ ¬ LegalKeyLen keyLen := by
  rw [← exists_selectParams_iff, not_exists, Option.eq_none_iff_forall_ne_some]

/-- R147's count: of the 256 lengths the operand can hold, all but R101's three have no row. -/
theorem length_filter_selectParams_isNone : ((List.range 256).filter fun n => (selectParams n).isNone).length = 253 := by
  have hset : ((List.range 256).filter fun n => (selectParams n).isNone).toFinset = Finset.range 256 \ {16, 24, 32} := by
    ext n
    simp [selectParams_eq_none]
  rw [← List.toFinset_card_of_nodup (List.nodup_range.filter _), hset, Finset.card_sdiff_of_subset (by decide), Finset.card_range]
  rfl

section
variable {ctxv keyv : Bool} {keyLen : Nat}

theorem initCheck_eq_invalidParameter :
    initCheck ctxv keyv keyLen = .error .invalidParameter ↔ ctxv = false ∨ keyv = false := by
  simp [initCheck_eq_error]

theorem initCheck_eq_invalidKeyLength :
    initCheck ctxv keyv keyLen = .error .invalidKeyLength ↔ ctxv = true ∧ keyv = true ∧ ¬ LegalKeyLen keyLen := by
  simp [initCheck_eq_error, selectParams_eq_none_iff_not_legalKeyLen]

theorem initCheck_ne_outOfResources : initCheck ctxv keyv keyLen ≠ .error .outOfResources := by
  simp [initCheck_eq_error]

end

/-! ## What a command's response can be (R153) -/

theorem blockCommand_response {rk : Vector Block 17} {din : Vector Byte 16} {s t : State} (h : blockCommand rk din s = .next t) :
    t.response = some ⟨.ok, true⟩ := by
  obtain ⟨-, -, rfl⟩ := blockCommand_eq_next.mp h
  exact blockAnswer_response rk din s

/-- A command answered responds with the error of INIT's failed check, or with OK. -/
theorem exec_response_cases {i : Instr} {s t : State} (h : exec i s = .next t) :
    (∃ ctxv keyv keyLen key e, i = .init ctxv keyv keyLen key ∧ initCheck ctxv keyv keyLen = .error e ∧
      t.response = some ⟨e, false⟩) ∨ ∃ d, t.response = some ⟨.ok, d⟩ := by
  cases i with
  | init ctxv keyv keyLen key =>
    rcases execInit_cases h with ⟨e, hcheck, rfl⟩ | ⟨p, -, rfl⟩
    · exact .inl ⟨ctxv, keyv, keyLen, key, e, rfl, hcheck, raiseError_response e s⟩
    · exact .inr ⟨false, expandKey_response p key keyLen s⟩
  | enc din => exact .inr ⟨true, blockCommand_response h⟩
  | dec din => exact .inr ⟨true, blockCommand_response h⟩
  | deinit =>
    obtain rfl : deinitAnswer s = t := by simpa [exec_deinit] using h
    exact .inr ⟨false, deinitAnswer_response s⟩

/-- A command that reports an error is an INIT whose check fails with that error. -/
theorem init_of_exec_error {i : Instr} {s t : State} {e : Status} {d : Bool} (h : exec i s = .next t)
    (hresponse : t.response = some ⟨e, d⟩) (he : e ≠ .ok) :
    ∃ ctxv keyv keyLen key, i = .init ctxv keyv keyLen key ∧ initCheck ctxv keyv keyLen = .error e := by
  rcases exec_response_cases h with ⟨ctxv, keyv, keyLen, key, e', rfl, hcheck, herror⟩ | ⟨d', hok⟩
  · obtain ⟨rfl, -⟩ : e' = e ∧ false = d := by simpa [herror] using hresponse
    exact ⟨ctxv, keyv, keyLen, key, rfl, hcheck⟩
  · obtain ⟨rfl, -⟩ : .ok = e ∧ d' = d := by simpa [hok] using hresponse
    exact absurd rfl he

/-- The errors reported are exactly those INIT's check fails with, whatever the state. -/
theorem exec_reports_error_iff {i : Instr} {s : State} {e : Status} (he : e ≠ .ok) :
    (∃ t d, exec i s = .next t ∧ t.response = some ⟨e, d⟩) ↔
      ∃ ctxv keyv keyLen key, i = .init ctxv keyv keyLen key ∧ initCheck ctxv keyv keyLen = .error e := by
  constructor
  · rintro ⟨t, d, h, hresponse⟩
    exact init_of_exec_error h hresponse he
  · rintro ⟨ctxv, keyv, keyLen, key, rfl, hcheck⟩
    exact ⟨_, false, exec_init_of_initCheck_error hcheck, raiseError_response e s⟩

/-- Settles O37: the error is reported exactly where INIT's check raises it, which is for a null reference. -/
theorem invalidParameterExactly : Obligations.InvalidParameterExactly := by
  intro i s
  simp only [exec_reports_error_iff (show Status.invalidParameter ≠ .ok by decide), initCheck_eq_invalidParameter]

/-- Settles O38: the error is reported exactly where INIT's check raises it, which is for valid references and an illegal length. -/
theorem invalidKeyLengthExactly : Obligations.InvalidKeyLengthExactly := by
  refine ⟨fun i s => ?_, length_filter_selectParams_isNone⟩
  rw [exec_reports_error_iff (by decide)]
  constructor
  · rintro ⟨ctxv, keyv, keyLen, key, rfl, hcheck⟩
    obtain ⟨rfl, rfl, hillegal⟩ := initCheck_eq_invalidKeyLength.mp hcheck
    exact ⟨keyLen, key, rfl, hillegal⟩
  · rintro ⟨keyLen, key, rfl, hillegal⟩
    exact ⟨true, true, keyLen, key, rfl, initCheck_eq_invalidKeyLength.mpr ⟨rfl, rfl, hillegal⟩⟩

/-- Settles O54: block commands and DEINIT respond OK. -/
theorem onlyInitReportsErrors : Obligations.OnlyInitReportsErrors := by
  intro i s t e d h hresponse he
  obtain ⟨ctxv, keyv, keyLen, key, rfl, -⟩ := init_of_exec_error h hresponse he
  exact ⟨ctxv, keyv, keyLen, key, rfl⟩

/-- Settles O55: INIT's check would have to raise it. -/
theorem outOfResourcesNeverReturned : Obligations.OutOfResourcesNeverReturned := by
  intro i s t d h hresponse
  obtain ⟨ctxv, keyv, keyLen, key, -, hcheck⟩ := init_of_exec_error h hresponse (by decide)
  exact initCheck_ne_outOfResources hcheck

/-- Settles O36: each error is the one INIT's check raises, and raising it writes the response alone. -/
theorem failedInitWritesNothing : Obligations.FailedInitWritesNothing := by
  intro s ctxv keyv keyLen key
  constructor
  · intro hnull
    exact exec_init_of_initCheck_error (initCheck_eq_invalidParameter.mpr hnull)
  · intro hctx hkey hillegal
    exact exec_init_of_initCheck_error (initCheck_eq_invalidKeyLength.mpr ⟨hctx, hkey, hillegal⟩)

end Sys2Proof.Machine

/-! PROOFS. Encoding and decoding (30_encoding): a command word is its fields in order (R50, R52), so decoding and encoding undo each
other; the rows of the table do not overlap (R52); and what assembled lines decode to (R61). -/

namespace Sys2Proof

/-! ## INIT words and their fields (R50, R52) -/

/-- A one-bit field holds its bit. -/
theorem ofBool_getLsbD {n : Nat} (w : BitVec n) (k : Nat) : BitVec.ofBool (w.getLsbD k) = w.extractLsb' k 1 := by
  apply BitVec.eq_of_getLsbD_eq
  intro j hj
  obtain rfl : j = 0 := by omega
  simp

/-- A word of the INIT row is put together again from KEYLEN, KEYV and CTXV: its other fields are zero, and neighbouring fields join. -/
theorem initWord_fields_of_initMask {w : Word} (h : w &&& 0xFFFF00F3 = 0) :
    initWord (ctxvField w) (keyvField w) (keyLenField w) = w := by
  obtain ⟨hreserved, hop⟩ := (initMask_eq_zero_iff w).mp h
  obtain ⟨hhigh, hmid⟩ := (reservedClear_iff w).mp hreserved
  have hop : w.extractLsb' 0 2 = 0 := hop
  rw [initWord, keyLenField, BitVec.ofNat_toNat, BitVec.setWidth_eq, keyvField, ctxvField, ofBool_getLsbD, ofBool_getLsbD,
    ← BitVec.ofNat_eq_ofNat, ← BitVec.ofNat_eq_ofNat, ← BitVec.ofNat_eq_ofNat, ← hhigh, ← hmid, ← hop,
    BitVec.extractLsb'_append_extractLsb'_eq_extractLsb' (by rfl), BitVec.extractLsb'_append_extractLsb'_eq_extractLsb' (by rfl),
    BitVec.extractLsb'_append_extractLsb'_eq_extractLsb' (by rfl), BitVec.extractLsb'_append_extractLsb'_eq_extractLsb' (by rfl),
    BitVec.extractLsb'_append_extractLsb'_eq_extractLsb' (by rfl), BitVec.extractLsb'_eq_self]

/-- An INIT word decodes to the fields it was built from, when KEYLEN can hold the length (R53). -/
theorem decode_initWord (ctxv keyv : Bool) {keyLen : Nat} (hlen : keyLen < 256) (key : Vector Byte 32) (din : Vector Byte 16) :
    decode ⟨initWord ctxv keyv keyLen, key, din⟩ = .ok (.init ctxv keyv keyLen key) := by
  obtain ⟨hrow, hctxv, hkeyv, hkeyLen⟩ := initWord_fields (BitVec.ofNat 8 keyLen) keyv ctxv
  rw [BitVec.toNat_ofNat, Nat.mod_eq_of_lt hlen] at hkeyLen
  rw [decode_of_initMask ((selectsRow_initRow _).mp hrow)]
  simp only [initWord, hctxv, hkeyv, hkeyLen]

/-! ## The rows of the table (R52) -/

/-- Every mask covers OP, so a word that selects a row has the row's OP. -/
theorem opField_of_selectsRow {r : OpRow} {w : Word} (hr : r ∈ opRows) (h : selectsRow r w = true) :
    opField w = opField r.pattern := by
  have hmask : ∀ r ∈ opRows, opField r.mask = BitVec.allOnes 2 := by decide
  rw [← eq_of_beq h, opField, opField, BitVec.extractLsb'_and]
  change w.extractLsb' 0 2 = w.extractLsb' 0 2 &&& opField r.mask
  rw [hmask r hr, BitVec.and_allOnes]

/-- The four rows have four different OPs (R51). -/
theorem opRow_eq_of_opField_eq : ∀ r ∈ opRows, ∀ r' ∈ opRows, opField r.pattern = opField r'.pattern → r = r' := by decide

/-! ## The words of no row (R58) -/

section
variable {w : Word} (h : ∀ r ∈ opRows, selectsRow r w = false) (key : Vector Byte 32) (din : Vector Byte 16)
include h

/-- A word of no row is rejected, by whether its reserved bits are zero. -/
theorem decode_of_no_row : decode ⟨w, key, din⟩ = if reservedClear w then .error .strayFields else .error .reservedBits := by
  simp only [opRows, List.forall_mem_cons] at h
  obtain ⟨hinit, henc, hdec, hdeinit, -⟩ := h
  simp only [decode, hinit, henc, hdec, hdeinit, Bool.false_eq_true, if_false]

theorem decode_eq_strayFields (hclear : reservedClear w = true) : decode ⟨w, key, din⟩ = .error .strayFields := by
  rw [decode_of_no_row h, if_pos hclear]

theorem decode_eq_reservedBits (hset : reservedClear w = false) : decode ⟨w, key, din⟩ = .error .reservedBits := by
  rw [decode_of_no_row h, hset, if_neg Bool.false_ne_true]

end

/-! ## Assembled lines (R61) -/

/-- The assembler's INIT word is the encoder's, where the length fits KEYLEN. -/
theorem asmInitWord_eq_initWord {len : Nat} (hlen : len < 256) (keyNull ctxNull : Bool) :
    asmInitWord len keyNull ctxNull = initWord (!ctxNull) (!keyNull) len := by
  have hwords : ∀ (b : BitVec 8) (k c : Bool), asmInitWord b.toNat k c = initWord (!c) (!k) b.toNat := by decide
  have hword := hwords (BitVec.ofNat 8 len) keyNull ctxNull
  rwa [BitVec.toNat_ofNat, Nat.mod_eq_of_lt hlen] at hword

theorem decode_assemble_init {len : Nat} (hlen : len < 256) (key : Option (List Byte)) (ctxNull : Bool) :
    decode (assemble (.init len key ctxNull)) = .ok (.init (!ctxNull) (!key.isNone) len (keyBuffer (key.getD []))) := by
  rw [assemble, asmInitWord_eq_initWord hlen, decode_initWord _ _ hlen]

/-- The bits R61 writes beside KEYLEN. -/
theorem cmd_assemble_init (len : Nat) (key : Option (List Byte)) (ctxNull : Bool) :
    (assemble (.init len key ctxNull)).cmd =
      (BitVec.ofNat 32 len <<< 8) ||| ((if key.isNone then 0 else 8) ||| (if ctxNull then 0 else 4)) := BitVec.or_assoc ..

/-- Byte `i` of a KEY buffer is the `i`-th byte listed, and zero past the list. -/
theorem getElem_keyBuffer (bytes : List Byte) (i : Fin 32) :
    (keyBuffer bytes)[i] = if h : i.val < bytes.length then bytes[i.val] else 0 := by
  rw [Fin.getElem_fin, keyBuffer, Vector.getElem_ofFn]
  split
  next h => exact List.getD_eq_getElem _ _ h
  next h => exact List.getD_eq_default _ _ (Nat.le_of_not_lt h)

end Sys2Proof

namespace Sys2Proof.Machine

/-- Settles O3: the word of each command decodes to the command; INIT's by `decode_initWord`, the others being fixed words. -/
theorem decodeOfEncode : Obligations.DecodeOfEncode := by
  intro i hwf
  cases i with
  | init ctxv keyv keyLen key => exact decode_initWord ctxv keyv (of_decide_eq_true hwf) key zeroDin
  | enc din => exact decode_of_cmd_one rfl
  | dec din => exact decode_of_cmd_two rfl
  | deinit => exact decode_of_cmd_three rfl

/-- Settles O4: a word of the INIT row is its fields (`initWord_fields_of_initMask`), and KEYLEN has eight bits; the other words are
fixed. -/
theorem decodedWordIsEncodedWord : Obligations.DecodedWordIsEncodedWord := by
  intro c i h
  rcases decode_cases h with ⟨hmask, rfl⟩ | ⟨hword, rfl⟩ | ⟨hword, rfl⟩ | ⟨hword, rfl⟩
  · exact ⟨decide_eq_true (BitVec.isLt _), initWord_fields_of_initMask hmask⟩
  · exact ⟨rfl, hword.symm⟩
  · exact ⟨rfl, hword.symm⟩
  · exact ⟨rfl, hword.symm⟩

/-- Settles O5: two rows a word selects have the word's OP, so the same one. -/
theorem rowsDoNotOverlap : Obligations.RowsDoNotOverlap := by
  intro w r r' hr hr' h h'
  exact opRow_eq_of_opField_eq r hr r' hr' ((opField_of_selectsRow hr h).symm.trans (opField_of_selectsRow hr' h'))

/-- Settles O7: INIT lines by `decode_assemble_init`, `cmd_assemble_init` and `getElem_keyBuffer`; the other lines are fixed words. -/
theorem assembledLinesDecode : Obligations.AssembledLinesDecode := by
  refine ⟨fun len bytes ctxNull hlen => ?_, fun block => ?_, decode_of_cmd_three rfl, rfl⟩
  · refine ⟨decode_assemble_init hlen (some bytes) ctxNull, decode_assemble_init hlen none ctxNull,
      ?_, ?_, ?_, getElem_keyBuffer bytes⟩ <;> simp [cmd_assemble_init]
  · exact ⟨decode_of_cmd_one rfl, rfl, decode_of_cmd_two rfl, rfl⟩

/-- Settles O1: the INIT words are `initWord` of the fields listed, the next three are fixed words, and the last three select no row. -/
theorem tableWordsDecode : Obligations.TableWordsDecode := by
  intro key din
  have hinit (ctxv keyv : Bool) (b : BitVec 8) := decode_initWord ctxv keyv b.isLt key din
  exact ⟨hinit true true 16, hinit true true 24, hinit true true 32, hinit true true 255, hinit true false 16, hinit false true 16,
    decode_of_cmd_one rfl, decode_of_cmd_two rfl, decode_of_cmd_three rfl, decode_eq_strayFields (by decide) key din (by decide),
    decode_eq_reservedBits (by decide) key din (by decide), decode_eq_reservedBits (by decide) key din (by decide)⟩

end Sys2Proof.Machine

/-! PROOFS. The S-boxes' algebraic form (40_primitive_tables, R71): multiplication and powers in GF(2^8) computed on numbers, where the
kernel is quick, and the printed tables read against them. -/

namespace Sys2Proof.Machine

/-- `gfTimesZ` on numbers below 256. -/
def natTimesZ (p : Nat) : Nat := 2 * p % 256 ^^^ 27 * (p / 128)

/-- `gfMulBits` on numbers below 256, by the lowest `n` binary digits of `b`. -/
def natMul : Nat → Nat → Nat → Nat
  | 0, _, _ => 0
  | n + 1, a, b => a * (b % 2) ^^^ natMul n (natTimesZ a) (b / 2)

/-- `gfPowBits` on numbers below 256, by the lowest `n` binary digits of `e`. -/
def natPow : Nat → Nat → Nat → Nat
  | 0, _, _ => 1
  | n + 1, p, e => natMul 8 (p ^ (e % 2)) (natPow n (natMul 8 p p) (e / 2))

theorem toNat_gfTimesZ : ∀ p : Byte, (gfTimesZ p).toNat = natTimesZ p.toNat := by decide

/-- The lowest `n + 1` binary digits of a number are its lowest and the lowest `n` of its half. -/
theorem map_testBit_range_succ (b n : Nat) :
    (List.range (n + 1)).map (fun i => b.testBit i) = b.testBit 0 :: (List.range n).map (fun i => (b / 2).testBit i) := by
  simp only [List.range_succ_eq_map, List.map_cons, List.map_map, Function.comp_def, Nat.testBit_succ]

theorem toNat_gfMulBits (n : Nat) (a : Byte) (b : Nat) :
    (gfMulBits a ((List.range n).map fun i => b.testBit i)).toNat = natMul n a.toNat b := by
  induction n generalizing a b with
  | zero => rfl
  | succ n ih =>
    rw [map_testBit_range_succ, gfMulBits, natMul, BitVec.toNat_xor, ih, toNat_gfTimesZ, Nat.testBit_zero]
    rcases Nat.mod_two_eq_zero_or_one b with h | h <;> simp [h]

theorem toNat_gfMul (a b : Byte) : (gfMul a b).toNat = natMul 8 a.toNat b.toNat := toNat_gfMulBits 8 a b.toNat

theorem toNat_gfPowBits (n : Nat) (p : Byte) (e : Nat) :
    (gfPowBits p ((List.range n).map fun i => e.testBit i)).toNat = natPow n p.toNat e := by
  induction n generalizing p e with
  | zero => rfl
  | succ n ih =>
    rw [map_testBit_range_succ, gfPowBits, natPow, toNat_gfMul, ih, toNat_gfMul, Nat.testBit_zero]
    rcases Nat.mod_two_eq_zero_or_one e with h | h <;> simp [h]

/-- A power in GF(2^8), computed on numbers. -/
theorem gfPow_eq_ofNat (p : Byte) (e : Nat) : gfPow p e = BitVec.ofNat 8 (natPow 8 p.toNat e) := by
  rw [← toNat_gfPowBits, BitVec.ofNat_toNat, BitVec.setWidth_eq, gfPow]

/-- The printed contents of SB1 are read against the construction entry by entry. -/
theorem sb_one_eq_sb1Algebraic (x : Byte) : sb 1 x = sb1Algebraic x := by
  simp only [sb1Algebraic, gfPow_eq_ofNat]
  revert x
  decide +kernel

/-- The printed contents of SB2 are read against the construction entry by entry. -/
theorem sb_two_eq_sb2Algebraic (x : Byte) : sb 2 x = sb2Algebraic x := by
  simp only [sb2Algebraic, gfPow_eq_ofNat]
  revert x
  decide +kernel

/-- Settles O18: one table after the other. -/
theorem sboxesAreAlgebraic : Obligations.SboxesAreAlgebraic := fun x => ⟨sb_one_eq_sb1Algebraic x, sb_two_eq_sb2Algebraic x⟩

end Sys2Proof.Machine

/-! PROOFS. Round transforms, word by word and linear (41_round_transforms): SL1 and SL2 on words and as each other's inverse (R83, R89),
A as a linear involution and on words (R85, R86), and ROL128 on words (R91). -/

namespace Sys2Proof.Machine

/-! ## Words as four bytes (R30, R31) -/

/-- A word of a block is LOAD32BE of its bytes. -/
theorem wordAt_eq_wordOfBytes (x : Block) (j : Fin 4) : wordAt x j = wordOfBytes (byteAt x) j := by
  rw [← wordAt_blockOfBytes]
  exact congrArg (wordAt · j) (block_ext fun i => (byteAt_blockOfBytes _ i).symm)

/-- The four bytes of a word of bytes, as the word forms slice them. -/
theorem slices_load32be (b0 b1 b2 b3 : Byte) :
    (load32be b0 b1 b2 b3).extractLsb' 24 8 = b0 ∧ (load32be b0 b1 b2 b3).extractLsb' 16 8 = b1 ∧
      (load32be b0 b1 b2 b3).extractLsb' 8 8 = b2 ∧ (load32be b0 b1 b2 b3).extractLsb' 0 8 = b3 := by
  simpa only [store32be, Prod.mk.injEq] using store32be_load32be b0 b1 b2 b3

theorem load32be_xor_load32be (a0 a1 a2 a3 b0 b1 b2 b3 : Byte) :
    load32be a0 a1 a2 a3 ^^^ load32be b0 b1 b2 b3 = load32be (a0 ^^^ b0) (a1 ^^^ b1) (a2 ^^^ b2) (a3 ^^^ b3) := by
  apply BitVec.eq_of_getLsbD_eq
  intro k _
  simp only [BitVec.getLsbD_xor, getLsbD_load32be]
  split_ifs <;> rfl

theorem load32be_or_load32be (a0 a1 a2 a3 b0 b1 b2 b3 : Byte) :
    load32be a0 a1 a2 a3 ||| load32be b0 b1 b2 b3 = load32be (a0 ||| b0) (a1 ||| b1) (a2 ||| b2) (a3 ||| b3) := by
  apply BitVec.eq_of_getLsbD_eq
  intro k _
  simp only [BitVec.getLsbD_or, getLsbD_load32be]
  split_ifs <;> rfl

theorem load32be_and_load32be (a0 a1 a2 a3 b0 b1 b2 b3 : Byte) :
    load32be a0 a1 a2 a3 &&& load32be b0 b1 b2 b3 = load32be (a0 &&& b0) (a1 &&& b1) (a2 &&& b2) (a3 &&& b3) := by
  apply BitVec.eq_of_getLsbD_eq
  intro k _
  simp only [BitVec.getLsbD_and, getLsbD_load32be]
  split_ifs <;> rfl

/-- Shifting a word by 8 bits moves its bytes by one place. -/
theorem load32be_shiftLeft_byte (b0 b1 b2 b3 : Byte) : load32be b0 b1 b2 b3 <<< 8 = load32be b1 b2 b3 0 := by
  apply BitVec.eq_of_toNat_eq
  rw [BitVec.toNat_shiftLeft, Nat.shiftLeft_eq, toNat_load32be, toNat_load32be, BitVec.ofNat_eq_ofNat, BitVec.toNat_zero]
  omega

theorem load32be_shiftRight_byte (b0 b1 b2 b3 : Byte) : load32be b0 b1 b2 b3 >>> 8 = load32be 0 b0 b1 b2 := by
  apply BitVec.eq_of_toNat_eq
  rw [BitVec.toNat_ushiftRight, Nat.shiftRight_eq_div_pow, toNat_load32be, toNat_load32be, BitVec.ofNat_eq_ofNat, BitVec.toNat_zero]
  omega

/-! ## SL1 and SL2 on words (R83) -/

theorem sl1Word_load32be (b0 b1 b2 b3 : Byte) :
    sl1Word (load32be b0 b1 b2 b3) = load32be (sb 1 b0) (sb 2 b1) (sb 3 b2) (sb 4 b3) := by
  obtain ⟨h0, h1, h2, h3⟩ := slices_load32be b0 b1 b2 b3
  rw [sl1Word, h0, h1, h2, h3]

theorem sl2Word_load32be (b0 b1 b2 b3 : Byte) :
    sl2Word (load32be b0 b1 b2 b3) = load32be (sb 3 b0) (sb 4 b1) (sb 1 b2) (sb 2 b3) := by
  obtain ⟨h0, h1, h2, h3⟩ := slices_load32be b0 b1 b2 b3
  rw [sl2Word, h0, h1, h2, h3]

/-- Settles O22: the four bytes of a word stand at indices 0 to 3 modulo 4, so each word's bytes go through the same four tables. -/
theorem substitutionLayerWords : Obligations.SubstitutionLayerWords := by
  intro x j
  simp only [wordAt_eq_wordOfBytes, wordOfBytes, sl1Word_load32be, sl2Word_load32be, byteAt_sl1, byteAt_sl2, Nat.add_assoc,
    Nat.mul_add_mod, Nat.mul_mod_right, Nat.reduceAdd, Nat.reduceMod, and_self]

/-! ## SL1 and SL2 undo each other (R89) -/

/-- The tables two places apart in the cycle SB1, SB2, SB3, SB4 undo each other (R65). -/
theorem sb_sb_two_apart (i : Nat) (b : Byte) : sb ((i + 2) % 4 + 1) (sb (i % 4 + 1) b) = b := by
  obtain ⟨h31, h13, h42, h24⟩ := sboxesInvertEachOther.2 b
  obtain h | h | h | h : i % 4 = 0 ∨ i % 4 = 1 ∨ i % 4 = 2 ∨ i % 4 = 3 := by omega
  all_goals rw [Nat.add_mod, h]
  · exact h31
  · exact h42
  · exact h13
  · exact h24

@[simp] theorem sl2_sl1 (x : Block) : sl2 (sl1 x) = x :=
  block_ext fun i => by rw [byteAt_sl2, byteAt_sl1, sb_sb_two_apart]

@[simp] theorem sl1_sl2 (x : Block) : sl1 (sl2 x) = x := by
  refine block_ext fun i => ?_
  have h := sb_sb_two_apart (i.val + 2) (byteAt x i)
  rwa [Nat.add_assoc, Nat.add_mod_right, ← byteAt_sl2, ← byteAt_sl1] at h

/-- Settles O23: byte by byte, the two layers' tables at one index are two apart in the cycle. -/
theorem substitutionLayersInverse : Obligations.SubstitutionLayersInverse := fun x => ⟨sl2_sl1 x, sl1_sl2 x⟩

/-! ## A is linear and its own inverse (R85) -/

/-- The exclusive or of the bytes of `x` that a row of a matrix selects, column 0 first. -/
def rowXor (row : BitVec 16) (x : Block) : Byte :=
  (List.finRange 16).foldl (fun acc j => acc ^^^ if row.getMsbD j.val then byteAt x j else 0) 0

/-- Folds of exclusive or add up term by term. -/
theorem foldl_xor_xor {n : Nat} {α : Type} (f g : α → BitVec n) (l : List α) (a b : BitVec n) :
    l.foldl (fun acc j => acc ^^^ (f j ^^^ g j)) (a ^^^ b) =
      l.foldl (fun acc j => acc ^^^ f j) a ^^^ l.foldl (fun acc j => acc ^^^ g j) b := by
  induction l generalizing a b with
  | nil => rfl
  | cons j l ih =>
    have hterm : a ^^^ b ^^^ (f j ^^^ g j) = (a ^^^ f j) ^^^ (b ^^^ g j) := by ac_rfl
    rw [List.foldl_cons, hterm, ih]
    rfl

theorem rowXor_eq_foldl_filter (row : BitVec 16) (x : Block) :
    rowXor row x = ((List.finRange 16).filter fun j => row.getMsbD j.val).foldl (fun acc j => acc ^^^ byteAt x j) 0 := by
  rw [rowXor, List.foldl_filter]
  congr
  funext acc j
  split
  · rfl
  · exact BitVec.xor_zero

theorem byteAt_diffuse_eq_rowXor (x : Block) (i : Fin 16) : byteAt (diffuse x) i = rowXor (diffusionMatrixRow i) x := by
  rw [byteAt_diffuse, diffusionSet_eq_filter, rowXor_eq_foldl_filter]
  rfl

theorem diffuse_eq_blockOfBytes_rowXor (x : Block) : diffuse x = blockOfBytes fun i => rowXor (diffusionMatrixRow i) x :=
  block_ext fun i => by rw [byteAt_blockOfBytes, byteAt_diffuse_eq_rowXor]

/-- `rowXor` is linear in the block. -/
theorem rowXor_xor128 (row : BitVec 16) (x y : Block) : rowXor row (xor128 x y) = rowXor row x ^^^ rowXor row y := by
  rw [rowXor, rowXor, rowXor, ← foldl_xor_xor, BitVec.xor_self]
  congr
  funext acc j
  rw [byteAt_xor128]
  split
  · rfl
  · exact congrArg (acc ^^^ ·) BitVec.xor_zero.symm

/-- `rowXor` is linear in the row. -/
theorem rowXor_xor (r r' : BitVec 16) (x : Block) : rowXor (r ^^^ r') x = rowXor r x ^^^ rowXor r' x := by
  rw [rowXor, rowXor, rowXor, ← foldl_xor_xor, BitVec.xor_self]
  congr
  funext acc j
  rw [BitVec.getMsbD_xor]
  cases r.getMsbD j.val <;> cases r'.getMsbD j.val <;> simp

/-- Row `i` of the identity matrix. -/
def unitRow (i : Fin 16) : BitVec 16 := BitVec.twoPow 16 (15 - i.val)

@[simp] theorem rowXor_zero (x : Block) : rowXor 0 x = 0 := by
  simp [rowXor]

/-- A row with a single one selects a single byte. -/
theorem rowXor_unitRow (i : Fin 16) (x : Block) : rowXor (unitRow i) x = byteAt x i := by
  have hone : (List.finRange 16).filter (fun j => (unitRow i).getMsbD j.val) = [i] := by
    revert i
    decide
  rw [rowXor_eq_foldl_filter, hone]
  exact BitVec.zero_xor

/-- The matrix of A times itself is the identity: the rows that row `i` selects add up to row `i` of the identity. -/
theorem foldl_diffusionMatrixRow (i : Fin 16) :
    (diffusionSet i).foldl (fun acc j => acc ^^^ diffusionMatrixRow j) 0 = unitRow i := by
  revert i
  decide

/-- A is its own inverse: a byte of `A(A(x))` is the exclusive or of rows of A on `x`, which is that of their sum on `x`. -/
@[simp] theorem diffuse_diffuse (x : Block) : diffuse (diffuse x) = x := by
  refine block_ext fun i => ?_
  calc byteAt (diffuse (diffuse x)) i
      = (diffusionSet i).foldl (fun acc j => acc ^^^ rowXor (diffusionMatrixRow j) x) (rowXor 0 x) := by
        simp only [byteAt_diffuse (diffuse x), byteAt_diffuse_eq_rowXor, rowXor_zero]
    _ = rowXor ((diffusionSet i).foldl (fun acc j => acc ^^^ diffusionMatrixRow j) 0) x :=
        List.foldl_hom (rowXor · x) fun r j => (rowXor_xor r _ x).symm
    _ = byteAt x i := by rw [foldl_diffusionMatrixRow, rowXor_unitRow]

theorem diffuse_xor128 (x y : Block) : diffuse (xor128 x y) = xor128 (diffuse x) (diffuse y) :=
  block_ext fun i => by simp only [byteAt_xor128, byteAt_diffuse_eq_rowXor, rowXor_xor128]

theorem diffusionMatrix_symm : ∀ i j : Fin 16, diffusionMatrix i j = diffusionMatrix j i := by decide

/-- Settles O25: a row has as many ones as its byte-set has members; the symmetry is read off the printed matrix. -/
theorem diffusionIsLinearInvolution : Obligations.DiffusionIsLinearInvolution := by
  refine ⟨diffuse_diffuse, fun i => ?_, diffusionMatrix_symm, diffuse_xor128⟩
  rw [← diffusionSet_eq_filter, length_diffusionSet]

/-! ## A on words (R86) -/

theorem p1_load32be (b0 b1 b2 b3 : Byte) : p1 (load32be b0 b1 b2 b3) = load32be b1 b0 b3 b2 := by
  change (load32be b0 b1 b2 b3 <<< 8 &&& load32be (BitVec.allOnes 8) 0 (BitVec.allOnes 8) 0) |||
    (load32be b0 b1 b2 b3 >>> 8 &&& load32be 0 (BitVec.allOnes 8) 0 (BitVec.allOnes 8)) = _
  rw [load32be_shiftLeft_byte, load32be_shiftRight_byte]
  simp only [load32be_and_load32be, load32be_or_load32be, BitVec.and_allOnes, BitVec.and_zero, BitVec.or_zero, BitVec.zero_or,
    BitVec.ofNat_eq_ofNat]

theorem p2_load32be (b0 b1 b2 b3 : Byte) : p2 (load32be b0 b1 b2 b3) = load32be b2 b3 b0 b1 := by
  rw [p2, BitVec.shiftLeft_add _ 8 8, BitVec.shiftRight_add _ 8 8]
  simp only [load32be_shiftLeft_byte, load32be_shiftRight_byte, load32be_or_load32be, BitVec.ofNat_eq_ofNat, BitVec.or_zero,
    BitVec.zero_or]

theorem p3_load32be (b0 b1 b2 b3 : Byte) : p3 (load32be b0 b1 b2 b3) = load32be b3 b2 b1 b0 := by
  obtain ⟨h0, h1, h2, h3⟩ := slices_load32be b0 b1 b2 b3
  rw [p3, h0, h1, h2, h3]

/-- The word-wise procedure is A: P1, P2 and P3 move bytes, so each byte it gives is `rowXor` of a sum of rows of the identity, and the
sum is the row of A's matrix. -/
theorem diffuse_eq_diffuseWords (x : Block) : diffuse x = diffuseWords (wordAt x 0) (wordAt x 1) (wordAt x 2) (wordAt x 3) := by
  simp only [wordAt_eq_wordOfBytes, wordOfBytes, diffuseWords, p1_load32be, p2_load32be, p3_load32be, load32be_xor_load32be,
    ← rowXor_unitRow, ← rowXor_xor]
  rw [diffuse_eq_blockOfBytes_rowXor]
  rfl

/-- Settles O26: the bytes P1, P2 and P3 move, their shifts and masks (their definitions), and the procedure on words; the worked example
is computed. -/
theorem diffusionOnWords : Obligations.DiffusionOnWords :=
  ⟨fun b0 b1 b2 b3 => ⟨p1_load32be b0 b1 b2 b3, p2_load32be b0 b1 b2 b3, p3_load32be b0 b1 b2 b3⟩, fun _ => ⟨rfl, rfl⟩,
    diffuse_eq_diffuseWords, by decide⟩

/-! ## ROL128 on words (R91) -/

/-- Bit `m` of a rotated block comes from `n` places below, around the end of the block. -/
theorem getLsbD_rol128_eq (x : Block) {n m : Nat} (hn : n < 128) (hm : m < 128) :
    (rol128 x n).getLsbD m = x.getLsbD ((m + (128 - n)) % 128) := by
  have h := getLsbD_rol128 x hn (Nat.mod_lt (m + (128 - n)) (by decide))
  rwa [show ((m + (128 - n)) % 128 + n) % 128 = m by omega] at h

/-- Bit `k` of word `i` of a rotated block. -/
theorem getLsbD_wordAt_rol128 (x : Block) {n k : Nat} (i : Fin 4) (hn : n < 128) (hk : k < 32) :
    (wordAt (rol128 x n) i).getLsbD k = x.getLsbD ((32 * (3 - i.val) + k + (128 - n)) % 128) := by
  rw [getLsbD_wordAt, decide_eq_true hk, Bool.true_and, getLsbD_rol128_eq x hn (by omega)]

/-- Settles O29: bit by bit. In a rotation by whole words a bit keeps its place in its word; otherwise the lowest `r` bits of a word come
from the top of the next word, and the others from below in the same one. -/
theorem rotationOnWords : Obligations.RotationOnWords := by
  intro x n i hn
  constructor
  · intro hwhole
    apply BitVec.eq_of_getLsbD_eq
    intro k hk
    rw [getLsbD_wordAt_rol128 x i hn hk, getLsbD_wordAt, decide_eq_true hk, Bool.true_and, Fin.val_ofNat]
    congr 1
    omega
  · intro hrest
    apply BitVec.eq_of_getLsbD_eq
    intro k hk
    rw [getLsbD_wordAt_rol128 x i hn hk, BitVec.getLsbD_or, BitVec.getLsbD_shiftLeft, BitVec.getLsbD_ushiftRight, getLsbD_wordAt,
      getLsbD_wordAt, Fin.val_ofNat, Fin.val_ofNat]
    rcases Nat.lt_or_ge k (n % 32) with hlow | hhigh
    · have hnext : 32 - n % 32 + k < 32 := by omega
      simp only [hk, hlow, hnext, decide_true, Bool.not_true, Bool.and_false, Bool.false_and, Bool.false_or, Bool.true_and]
      congr 1
      omega
    · have hpast : ¬ 32 - n % 32 + k < 32 := by omega
      have hsame : k - n % 32 < 32 := by omega
      simp only [hk, Nat.not_lt.mpr hhigh, hpast, hsame, decide_true, decide_false, Bool.not_false, Bool.false_and, Bool.or_false,
        Bool.true_and]
      congr 1
      omega

end Sys2Proof.Machine

/-! PROOFS. Commands and steps (10_state section 5, 20_memory section 5, 60_exceptions): what each command leaves when it completes and when
it is refused, said once for all four, and from that what a step does with the host's events and with the context. -/

namespace Sys2Proof.Machine

/-! ## When a command completes and when it is refused -/

/-- The five ways a command completes, with the state each leaves. -/
inductive Completes : Instr → State → State → Prop where
  | initFailed {ctxv keyv : Bool} {keyLen : Nat} {e : Status} (key : Vector Byte 32) (s : State)
      (hcheck : initCheck ctxv keyv keyLen = .error e) : Completes (.init ctxv keyv keyLen key) s (raiseError e s)
  | initDone {keyLen : Nat} {p : ScheduleParams} (key : Vector Byte 32) (s : State) (hparams : selectParams keyLen = some p) :
      Completes (.init true true keyLen key) s (expandKey p key keyLen s)
  | enc {s : State} (din : Vector Byte 16) (hready : s.BlockReady) : Completes (.enc din) s (blockAnswer s.ek din s)
  | dec {s : State} (din : Vector Byte 16) (hready : s.BlockReady) : Completes (.dec din) s (blockAnswer s.dk din s)
  | deinit (s : State) : Completes .deinit s (deinitAnswer s)

theorem blockReady_and_eq_of_blockCommand {rk : Vector Block 17} {din : Vector Byte 16} {s t : State}
    (h : blockCommand rk din s = .next t) : s.BlockReady ∧ t = blockAnswer rk din s := by
  obtain ⟨hphase, hrounds, ht⟩ := blockCommand_eq_next.mp h
  exact ⟨⟨hphase, hrounds⟩, ht⟩

theorem exec_eq_next_iff {i : Instr} {s t : State} : exec i s = .next t ↔ Completes i s t := by
  constructor
  · intro h
    cases i with
    | init ctxv keyv keyLen key =>
      rcases execInit_cases h with ⟨e, hcheck, rfl⟩ | ⟨p, hcheck, rfl⟩
      · exact .initFailed key s hcheck
      · obtain ⟨rfl, rfl, hparams⟩ := initCheck_eq_ok.mp hcheck
        exact .initDone key s hparams
    | enc din =>
      obtain ⟨hready, rfl⟩ := blockReady_and_eq_of_blockCommand h
      exact .enc din hready
    | dec din =>
      obtain ⟨hready, rfl⟩ := blockReady_and_eq_of_blockCommand h
      exact .dec din hready
    | deinit =>
      obtain rfl : deinitAnswer s = t := by simpa [exec_deinit] using h
      exact .deinit s
  · intro h
    cases h with
    | initFailed key s hcheck => exact exec_init_of_initCheck_error hcheck
    | initDone key s hparams => exact exec_init_of_selectParams hparams
    | enc din hready => exact blockCommand_of_blockReady s.ek din hready
    | dec din hready => exact blockCommand_of_blockReady s.dk din hready
    | deinit s => exact exec_deinit s

/-- INIT completes in every state, whatever its check says. -/
theorem exists_exec_init_eq_next (ctxv keyv : Bool) (keyLen : Nat) (key : Vector Byte 32) (s : State) :
    ∃ t, exec (.init ctxv keyv keyLen key) s = .next t := by
  cases hcheck : initCheck ctxv keyv keyLen with
  | error e => exact ⟨_, exec_init_of_initCheck_error hcheck⟩
  | ok p =>
    obtain ⟨rfl, rfl, hparams⟩ := initCheck_eq_ok.mp hcheck
    exact ⟨_, exec_init_of_selectParams hparams⟩

/-- Is the command ENC or DEC? -/
def IsBlockCommand (i : Instr) : Prop := ∃ din, i = .enc din ∨ i = .dec din

/-- A refused command is a block command, for the phase or the round count. -/
theorem exec_eq_refused_iff {i : Instr} {s : State} {r : Refusal} : exec i s = .refused r ↔
    IsBlockCommand i ∧ ((s.phase ≠ .ready ∧ r = .contextNotInitialised) ∨
      (s.phase = .ready ∧ legalRounds s.nr = false ∧ r = .mismatchedRoundCount)) := by
  cases i with
  | init ctxv keyv keyLen key =>
    obtain ⟨t, h⟩ := exists_exec_init_eq_next ctxv keyv keyLen key s
    simp [h, IsBlockCommand]
  | enc din => simp [exec_enc, blockCommand_eq_refused, IsBlockCommand]
  | dec din => simp [exec_dec, blockCommand_eq_refused, IsBlockCommand]
  | deinit => simp [exec_deinit, IsBlockCommand]

/-- A command is refused when it is a block command on a context that is not block-ready. -/
theorem exists_exec_eq_refused_iff {i : Instr} {s : State} : (∃ r, exec i s = .refused r) ↔ IsBlockCommand i ∧ ¬ s.BlockReady := by
  simp only [exec_eq_refused_iff, exists_and_left, exists_or, exists_eq, and_true, State.BlockReady, not_and_or, Bool.not_eq_true]
  tauto

/-! ## What a step does -/

theorem step_of_pending_nil {s : State} (h : s.pending = []) : step s = .next s := by
  simp only [step, h]

theorem step_of_reset {s : State} {rest : List HostEvent} (h : s.pending = .reset :: rest) :
    step s = .next (resetCore { s with pending := rest }) := by
  simp only [step, h]

theorem step_of_decode_ok {s : State} {c : Command} {rest : List HostEvent} {i : Instr} (hp : s.pending = .command c :: rest)
    (hd : decode c = .ok i) : step s = exec i { s with pending := rest } := by
  simp only [step, hp, hd]

/-- Settles O8: it is the step's last branch. -/
theorem stepRunsDecodedCommand : Obligations.StepRunsDecodedCommand := fun _ _ _ _ hp hd => step_of_decode_ok hp hd

/-- Settles O9: the step's first two branches. -/
theorem idleAndResetSteps : Obligations.IdleAndResetSteps := by
  refine ⟨fun s h => step_of_pending_nil h, fun s rest h => ?_⟩
  exact ⟨_, step_of_reset h, resetCore_phase _, resetCore_response _, resetCore_pending _⟩

/-- Settles O12: both resets leave phase EMPTY, and outside READY a block command is refused. -/
theorem resetLeavesEmpty : Obligations.ResetLeavesEmpty := by
  refine ⟨rfl, rfl, rfl, fun s rest h => ⟨_, step_of_reset h, resetCore_phase _, fun din => ?_⟩⟩
  have hphase : (resetCore { s with pending := rest }).phase ≠ .ready := by simp
  rw [exec_enc, exec_dec]
  exact ⟨blockCommand_of_phase_ne_ready _ _ hphase, blockCommand_of_phase_ne_ready _ _ hphase⟩

/-- Settles O11: by what the next event is; a command whose word decodes is refused when its execution is. No step faults. -/
theorem stepRefusedExactly : Obligations.StepRefusedExactly := by
  intro s
  constructor
  · match hp : s.pending with
    | [] => simp [step_of_pending_nil hp]
    | .reset :: rest => simp [step_of_reset hp]
    | .command c :: rest =>
      cases hd : decode c with
      | error e => simp [step_of_decode_error hp hd, hd]
      | ok i =>
        rw [step_of_decode_ok hp hd, exists_exec_eq_refused_iff]
        change IsBlockCommand i ∧ ¬ s.BlockReady ↔ _
        simp [IsBlockCommand, hd]
  · intro hnot
    cases h : step s with
    | next t => exact ⟨t, rfl⟩
    | fault r => exact nomatch r
    | refused r => exact absurd ⟨r, h⟩ hnot

/-! ## What a command leaves of the events, the response and the context -/

section
variable (rk : Vector Block 17) (din : Vector Byte 16) (p : ScheduleParams) (key : Vector Byte 32) (keyLen : Nat) (s : State)

@[simp] theorem expandKey_pending : (expandKey p key keyLen s).pending = s.pending := by simp [expandKey]
@[simp] theorem expandKey_dout : (expandKey p key keyLen s).dout = s.dout := by simp [expandKey]
@[simp] theorem blockAnswer_pending : (blockAnswer rk din s).pending = s.pending := rfl
@[simp] theorem deinitAnswer_pending : (deinitAnswer s).pending = s.pending := rfl
@[simp] theorem deinitAnswer_dout : (deinitAnswer s).dout = s.dout := rfl

theorem raiseError_sameContext (e : Status) : (raiseError e s).SameContext s := ⟨rfl, rfl, rfl, rfl⟩
theorem blockAnswer_sameContext : (blockAnswer rk din s).SameContext s :=
  ⟨blockAnswer_nr rk din s, blockAnswer_ek rk din s, blockAnswer_dk rk din s, blockAnswer_phase rk din s⟩

end

theorem exec_pending {i : Instr} {s t : State} (h : exec i s = .next t) : t.pending = s.pending := by
  cases exec_eq_next_iff.mp h with
  | initFailed key s hcheck => exact raiseError_pending _ s
  | initDone key s hparams => exact expandKey_pending _ key _ s
  | enc din hready => exact blockAnswer_pending s.ek din s
  | dec din hready => exact blockAnswer_pending s.dk din s
  | deinit s => exact deinitAnswer_pending s

/-- Settles O57: one answer for each way a command completes. -/
theorem doutWrittenByBlockCommandsOnly : Obligations.DoutWrittenByBlockCommandsOnly := by
  intro i s t h
  refine ⟨exec_pending h, ?_⟩
  cases exec_eq_next_iff.mp h with
  | initFailed key s hcheck => exact ⟨_, false, raiseError_response _ s, by simp, fun _ => raiseError_dout _ s⟩
  | initDone key s hparams => exact ⟨_, false, expandKey_response _ key _ s, by simp, fun _ => expandKey_dout _ key _ s⟩
  | enc din hready => exact ⟨_, true, blockAnswer_response s.ek din s, by simp, by simp⟩
  | dec din hready => exact ⟨_, true, blockAnswer_response s.dk din s, by simp, by simp⟩
  | deinit s => exact ⟨_, false, deinitAnswer_response s, by simp, fun _ => deinitAnswer_dout s⟩

/-- Settles O10: the step takes the first event, and the command it carries out leaves the others. -/
theorem eventsTakenInOrder : Obligations.EventsTakenInOrder := by
  intro s t e rest hp h
  rcases step_cases h with ⟨hnil, -⟩ | ⟨rest', hreset, rfl⟩ | ⟨c, rest', i, hcommand, -, hexec⟩
  · simp [hnil] at hp
  · obtain ⟨-, rfl⟩ : _ ∧ rest' = rest := by simpa [hreset] using hp
    exact resetCore_pending _
  · obtain ⟨-, rfl⟩ : _ ∧ rest' = rest := by simpa [hcommand] using hp
    exact exec_pending hexec

/-- A command leaves the context as it was, unless it is an INIT that succeeds or DEINIT. -/
theorem exec_sameContext_or {i : Instr} {s t : State} (h : exec i s = .next t) : t.SameContext s ∨
    (∃ keyLen key, LegalKeyLen keyLen ∧ i = .init true true keyLen key) ∨ i = .deinit := by
  cases exec_eq_next_iff.mp h with
  | initFailed key s hcheck => exact .inl (raiseError_sameContext s _)
  | initDone key s hparams => exact .inr (.inl ⟨_, key, exists_selectParams_iff.mp ⟨_, hparams⟩, rfl⟩)
  | enc din hready => exact .inl (blockAnswer_sameContext s.ek din s)
  | dec din hready => exact .inl (blockAnswer_sameContext s.dk din s)
  | deinit s => exact .inr (.inr rfl)

/-- Settles O58: an idle step changes nothing, and of the commands only a successful INIT and DEINIT change the context. -/
theorem contextChangedOnlyBy : Obligations.ContextChangedOnlyBy := by
  intro s t h hchanged
  rcases step_cases h with ⟨-, rfl⟩ | ⟨rest, hreset, -⟩ | ⟨c, rest, i, hcommand, hd, hexec⟩
  · exact absurd ⟨rfl, rfl, rfl, rfl⟩ hchanged
  · exact .inl ⟨rest, hreset⟩
  · refine .inr ⟨c, rest, hcommand, ?_⟩
    rcases exec_sameContext_or hexec with hsame | ⟨keyLen, key, hlegal, rfl⟩ | rfl
    · exact absurd hsame hchanged
    · exact .inl ⟨keyLen, key, hlegal, hd⟩
    · exact .inr hd

end Sys2Proof.Machine

/-! PROOFS. INIT's operands and what it leaves (42_key_schedule): the closed forms of R101, the key bytes INIT reads (R55), that it replaces
the key (R110), and that the context it leaves is one that block commands run on, with mirrored round keys (R16, R107). -/

namespace Sys2Proof.Machine

/-! ## The parameters (R101) -/

/-- Settles O30: the rows are the definition's, and the closed forms are computed in each of the three. -/
theorem parameterSelection : Obligations.ParameterSelection := by
  refine ⟨rfl, rfl, rfl, fun n => selectParams_eq_none_iff_not_legalKeyLen.mpr, fun n p h => ?_⟩
  refine ⟨rounds_of_selectParams h, ?_⟩
  rcases selectParams_eq_some.mp h with ⟨rfl, rfl⟩ | ⟨rfl, rfl⟩ | ⟨rfl, rfl⟩ <;> decide

/-! ## The key bytes INIT reads (R55) -/

section
variable {key key' : Vector Byte 32} {keyLen : Nat} (h : ∀ i : Fin 32, i.val < keyLen → key[i] = key'[i])
include h

/-- KL is the first 16 key bytes, all of them below a length of at least 16. -/
theorem keyLeft_congr (hlen : 16 ≤ keyLen) : keyLeft key = keyLeft key' := by
  refine block_ext fun i => ?_
  rw [byteAt_keyLeft, byteAt_keyLeft]
  exact h ⟨i.val, by omega⟩ (by dsimp only; omega)

/-- KR is padding from the length on. -/
theorem keyRight_congr : keyRight key keyLen = keyRight key' keyLen := by
  refine block_ext fun i => ?_
  rw [byteAt_keyRight, byteAt_keyRight]
  split
  next hbelow => exact h ⟨16 + i.val, by omega⟩ (by dsimp only; omega)
  next => rfl

end

/-- The key enters the expansion by its two halves only (R103). -/
theorem expandKey_congr {key key' : Vector Byte 32} {keyLen : Nat} (p : ScheduleParams) (s : State)
    (hleft : keyLeft key = keyLeft key') (hright : keyRight key keyLen = keyRight key' keyLen) :
    expandKey p key keyLen s = expandKey p key' keyLen s := by
  simp only [expandKey, formHalves, hleft, hright]

/-- Settles O39: a failed check reads no key byte, and a check that passes has a length of at least 16. -/
theorem initIgnoresKeyTail : Obligations.InitIgnoresKeyTail := by
  intro s ctxv keyv keyLen key key' hagree
  cases hcheck : initCheck ctxv keyv keyLen with
  | error e => rw [exec_init_of_initCheck_error hcheck, exec_init_of_initCheck_error hcheck]
  | ok p =>
    obtain ⟨rfl, rfl, hparams⟩ := initCheck_eq_ok.mp hcheck
    have hlen : 16 ≤ keyLen := by
      rcases exists_selectParams_iff.mp ⟨p, hparams⟩ with rfl | rfl | rfl <;> decide
    rw [exec_init_of_selectParams hparams, exec_init_of_selectParams hparams,
      expandKey_congr p s (keyLeft_congr hagree hlen) (keyRight_congr hagree)]

/-! ## What a successful INIT leaves (R16, R107, R110) -/

/-- The slots INIT writes of `dk` do not depend on the old file. -/
theorem slot_decryptionKeys_congr (ek old old' : Vector Block 17) {n i : Nat} (hi : i ≤ n) (hn : n ≤ 16) :
    slot (decryptionKeys ek n old) i = slot (decryptionKeys ek n old') i := by
  rw [slot_decryptionKeys ek old (by omega), slot_decryptionKeys ek old' (by omega)]
  split_ifs
  · rfl
  · rfl
  · rfl
  · omega

theorem mirroredKeys_decryptionKeys (ek old : Vector Block 17) {n : Nat} (hn : n ≤ 16) :
    MirroredKeys ek (decryptionKeys ek n old) n :=
  ⟨slot_decryptionKeys_first ek old, slot_decryptionKeys_last ek old hn,
    fun _ hpos hlt => slot_decryptionKeys_middle ek old hpos hlt hn⟩

section
variable {p : ScheduleParams} {keyLen : Nat} (h : selectParams keyLen = some p) (key : Vector Byte 32) (s : State)
include h

theorem expandKey_mirroredKeys :
    MirroredKeys (expandKey p key keyLen s).ek (expandKey p key keyLen s).dk (expandKey p key keyLen s).nr.toNat := by
  rw [expandKey_dk, expandKey_nr]
  exact mirroredKeys_decryptionKeys _ s.dk (rounds_le_of_selectParams h)

theorem expandKey_blockReady : (expandKey p key keyLen s).BlockReady := by
  refine ⟨expandKey_phase .., ?_⟩
  rw [expandKey_nr, legalRounds_iff]
  rcases selectParams_eq_some.mp h with ⟨-, rfl⟩ | ⟨-, rfl⟩ | ⟨-, rfl⟩ <;> decide

end

/-- Settles O40: what a successful INIT leaves of the state before is in the slots of `dk` above `nr` only. -/
theorem initReplacesKey : Obligations.InitReplacesKey := by
  intro s s' keyLen key hlegal
  obtain ⟨p, hparams⟩ := exists_selectParams_iff.mpr hlegal
  refine ⟨_, _, exec_init_of_selectParams hparams, exec_init_of_selectParams hparams, ?_⟩
  simp only [expandKey_nr, expandKey_ek, expandKey_dk, expandKey_phase, true_and, and_true]
  exact fun i hi => slot_decryptionKeys_congr _ s.dk s'.dk hi (rounds_le_of_selectParams hparams)

end Sys2Proof.Machine

/-! PROOFS. CRYPT (43_block_transform): its rounds (R120), the slots it reads (R120), that CRYPT with mirrored round keys undoes CRYPT
(R129); and so the round trip on the machine, and block commands in either order (R36). -/

namespace Sys2Proof.Machine

/-! ## The rounds (R120) -/

/-- The substitution layer of round `i`: SL1 in odd and SL2 in even rounds. -/
def subLayer (i : Nat) (x : Block) : Block := if i % 2 = 1 then sl1 x else sl2 x

theorem fullRounds_zero (rk : Vector Block 17) (x : Block) : fullRounds rk x 0 = x := rfl

theorem fullRounds_succ (rk : Vector Block 17) (x : Block) (i : Nat) :
    fullRounds rk x (i + 1) = diffuse (subLayer (i + 1) (xor128 (fullRounds rk x i) (slot rk i))) := by
  rw [fullRounds, subLayer, oddRound_eq, evenRound_eq]
  split <;> rfl

theorem crypt_eq (rk : Vector Block 17) (n : Nat) (x : Block) :
    crypt rk n x = xor128 (sl2 (xor128 (fullRounds rk x (n - 1)) (slot rk (n - 1)))) (slot rk n) := rfl

/-- Settles O41: a full round by its parity, and the final round by definition. -/
theorem cryptRoundByRound : Obligations.CryptRoundByRound := by
  intro rk x
  refine ⟨fullRounds_zero rk x, fun i hpos hodd => ?_, fun i hpos heven => ?_, fun n => crypt_eq rk n x⟩
  · obtain ⟨i, rfl⟩ := Nat.exists_eq_add_of_le' hpos
    rw [fullRounds, if_pos hodd, Nat.add_sub_cancel]
  · obtain ⟨i, rfl⟩ := Nat.exists_eq_add_of_le' hpos
    rw [fullRounds, if_neg (by omega), Nat.add_sub_cancel]

/-! ## The slots CRYPT reads (R120) -/

/-- The first `i` full rounds read slots below `i` only. -/
theorem fullRounds_congr {rk rk' : Vector Block 17} (x : Block) {i : Nat} (h : ∀ j < i, slot rk j = slot rk' j) :
    fullRounds rk x i = fullRounds rk' x i := by
  induction i with
  | zero => rfl
  | succ i ih => rw [fullRounds_succ, fullRounds_succ, ih fun j hj => h j (by omega), h i (by omega)]

/-- Settles O42: the full rounds read slots below `n - 1`, and the final round the next two. -/
theorem cryptReadsSlotsUpToRounds : Obligations.CryptReadsSlotsUpToRounds := by
  intro rk rk' n x _ h
  rw [crypt_eq, crypt_eq, fullRounds_congr x fun j hj => h j (by omega), h (n - 1) (by omega), h n le_rfl]

/-! ## CRYPT undoes CRYPT (R129) -/

/-- The substitution layers of an odd and an even round undo each other. -/
theorem subLayer_subLayer {i j : Nat} (h : (i + j) % 2 = 1) (x : Block) : subLayer i (subLayer j x) = x := by
  rcases Nat.mod_two_eq_zero_or_one i with hi | hi
  · rw [subLayer, subLayer, if_neg (by omega), if_pos (by omega), sl2_sl1]
  · rw [subLayer, subLayer, if_pos (by omega), if_neg (by omega), sl1_sl2]

/-- What enters the substitution layer of round `i + 1`. -/
def subInput (rk : Vector Block 17) (x : Block) (i : Nat) : Block := xor128 (fullRounds rk x i) (slot rk i)

theorem subInput_succ (rk : Vector Block 17) (x : Block) (i : Nat) :
    subInput rk x (i + 1) = xor128 (diffuse (subLayer (i + 1) (subInput rk x i))) (slot rk (i + 1)) := by
  rw [subInput, fullRounds_succ, subInput]

/-- The final round is an even one. -/
theorem crypt_succ (rk : Vector Block 17) (x : Block) {n : Nat} (hodd : n % 2 = 1) :
    crypt rk (n + 1) x = xor128 (subLayer (n + 1) (subInput rk x n)) (slot rk (n + 1)) := by
  rw [crypt_eq, subLayer, if_neg (by omega), Nat.add_sub_cancel, subInput]

theorem xor128_xor128_cancel (x y : Block) : xor128 (xor128 x y) y = x := by
  rw [xor128, xor128, BitVec.xor_assoc, BitVec.xor_self, BitVec.xor_zero]

/-- Mirrored the other way round: A is its own inverse (R85). -/
theorem MirroredKeys.symm {ek dk : Vector Block 17} {n : Nat} (h : MirroredKeys ek dk n) : MirroredKeys dk ek n := by
  obtain ⟨hfirst, hlast, hmiddle⟩ := h
  refine ⟨hlast.symm, hfirst.symm, fun i hpos hlt => ?_⟩
  rw [hmiddle (n - i) (by omega) (by omega), diffuse_diffuse, Nat.sub_sub_self hlt.le]

section
variable {ek dk : Vector Block 17} {n : Nat} (hkeys : MirroredKeys ek dk (n + 1)) (hodd : n % 2 = 1) (x : Block)
include hkeys hodd

/-- The inverse rounds run through the forward ones backwards: what enters their substitution layer `i + 1` is what left the forward one
`j + 1`. In the step, the layers cancel, and A moves the forward round key past A (R85) to where the mirrored one cancels it. -/
theorem subInput_crypt {i j : Nat} (hij : i + j = n) : subInput dk (crypt ek (n + 1) x) i = subLayer (j + 1) (subInput ek x j) := by
  obtain ⟨hfirst, -, hmiddle⟩ := hkeys
  induction i generalizing j with
  | zero =>
    obtain rfl : j = n := by omega
    rw [subInput, fullRounds_zero, hfirst, crypt_succ ek x hodd, xor128_xor128_cancel]
  | succ i ih =>
    have hkey : slot dk (i + 1) = diffuse (slot ek (j + 1)) := by
      rw [hmiddle (i + 1) (by omega) (by omega)]
      congr 2
      omega
    rw [subInput_succ, ih (j := j + 1) (by omega), subLayer_subLayer (by omega), hkey, ← diffuse_xor128, subInput_succ,
      xor128_xor128_cancel, diffuse_diffuse]

/-- CRYPT with the mirrored file undoes CRYPT, for every even round count. -/
theorem crypt_crypt : crypt dk (n + 1) (crypt ek (n + 1) x) = x := by
  have ⟨_, hlast, _⟩ := hkeys
  rw [crypt_succ dk _ hodd, subInput_crypt hkeys hodd x (Nat.add_zero n), subLayer_subLayer (by omega), hlast, subInput,
    fullRounds_zero, xor128_xor128_cancel]

end

/-- Settles O47: the three round counts are even, and mirroring is symmetric. -/
theorem cryptInvertsCrypt : Obligations.CryptInvertsCrypt := by
  intro ek dk n x hn hkeys
  obtain ⟨m, rfl⟩ : ∃ m, n = m + 1 := Nat.exists_eq_succ_of_ne_zero (by omega)
  have hodd : m % 2 = 1 := by omega
  exact ⟨crypt_crypt hkeys hodd x, crypt_crypt hkeys.symm hodd x⟩

/-- A block command on what the other direction returned returns the buffer that went in. -/
theorem blockAnswer_blockAnswer_dout {rk rk' : Vector Block 17} {s s' : State} (din : Vector Byte 16) (hnr : s'.nr = s.nr)
    (hinverse : crypt rk' s.nr.toNat (crypt rk s.nr.toNat (load128 din)) = load128 din) :
    (blockAnswer rk' (blockAnswer rk din s).dout s').dout = din := by
  rw [blockAnswer_dout, blockAnswer_dout, hnr, load128_store128, hinverse, store128_load128]

/-- Settles O48: a successful INIT leaves a block-ready context with mirrored keys, which block commands leave as it is. -/
theorem initThenRoundTrip : Obligations.InitThenRoundTrip := by
  intro s keyLen key din hlegal
  obtain ⟨p, hparams⟩ := exists_selectParams_iff.mpr hlegal
  have hready := expandKey_blockReady hparams key s
  have hkeys := expandKey_mirroredKeys hparams key s
  have hrun := exec_init_of_selectParams (key := key) (s := s) hparams
  generalize expandKey p key keyLen s = s1 at *
  have hrounds : s1.nr.toNat = 12 ∨ s1.nr.toNat = 14 ∨ s1.nr.toNat = 16 := by
    rcases legalRounds_iff.mp hready.2 with h | h | h <;> simp [h]
  obtain ⟨hdec, henc⟩ := cryptInvertsCrypt _ _ _ (load128 din) hrounds hkeys
  refine ⟨s1, _, _, _, _, hrun, blockCommand_of_blockReady s1.ek din hready, blockCommand_of_blockReady s1.dk _ hready,
    blockAnswer_blockAnswer_dout din rfl hdec, blockCommand_of_blockReady s1.dk din hready,
    blockCommand_of_blockReady s1.ek _ hready, blockAnswer_blockAnswer_dout din rfl henc⟩

/-! ## Block commands in either order (R36) -/

theorem State.BlockReady.of_sameContext {s t : State} (hready : s.BlockReady) (hsame : t.SameContext s) : t.BlockReady := by
  obtain ⟨hphase, hrounds⟩ := hready
  obtain ⟨hnr, -, -, hphase'⟩ := hsame
  exact ⟨hphase'.trans hphase, hnr ▸ hrounds⟩

/-- On every state with one and the same block-ready context, a block command works with one and the same round-key file. -/
theorem IsBlockCommand.exists_blockAnswer {i : Instr} (hi : IsBlockCommand i) {s : State} (hready : s.BlockReady) :
    ∃ rk din, ∀ t : State, t.SameContext s → exec i t = .next (blockAnswer rk din t) := by
  obtain ⟨din, rfl | rfl⟩ := hi
  · refine ⟨s.ek, din, fun t hsame => ?_⟩
    have ⟨_, hek, _, _⟩ := hsame
    rw [exec_enc, hek, blockCommand_of_blockReady _ din (hready.of_sameContext hsame)]
  · refine ⟨s.dk, din, fun t hsame => ?_⟩
    have ⟨_, _, hdk, _⟩ := hsame
    rw [exec_dec, hdk, blockCommand_of_blockReady _ din (hready.of_sameContext hsame)]

/-- Settles O46: each command leaves the context, on which alone and on its operand the other's result depends. -/
theorem blockCommandsCommute : Obligations.BlockCommandsCommute := by
  intro s i j hready hi hj
  obtain ⟨rki, dini, hexeci⟩ := IsBlockCommand.exists_blockAnswer hi hready
  obtain ⟨rkj, dinj, hexecj⟩ := IsBlockCommand.exists_blockAnswer hj hready
  have hself : s.SameContext s := ⟨rfl, rfl, rfl, rfl⟩
  refine ⟨_, _, _, _, hexeci s hself, hexecj _ (blockAnswer_sameContext rki dini s), hexecj s hself,
    hexeci _ (blockAnswer_sameContext rkj dinj s), ?_⟩
  simp only [blockAnswer_dout, blockAnswer_nr, blockAnswer_response, blockAnswer_ek, blockAnswer_dk, blockAnswer_phase,
    State.SameContext, and_self]

end Sys2Proof.Machine

/-! PROOFS. The lifecycle and the invariant (44_context_lifecycle, 10_state): the transition table (R135), what a successful and a failed
INIT enable (R166), that the working registers never matter (R14, R15), the result codes (R57), and the invariant every step keeps (R16). -/

namespace Sys2Proof.Machine

/-! ## The transition table (R135, R166) -/

/-- An INIT that may not succeed fails with one of the two errors. -/
theorem exec_init_of_illegal {ctxv keyv : Bool} {keyLen : Nat} (key : Vector Byte 32) (s : State)
    (h : ¬ (ctxv = true ∧ keyv = true ∧ LegalKeyLen keyLen)) :
    ∃ e, (e = .invalidParameter ∨ e = .invalidKeyLength) ∧ exec (.init ctxv keyv keyLen key) s = .next (raiseError e s) := by
  cases hcheck : initCheck ctxv keyv keyLen with
  | error e => exact ⟨e, (initCheck_eq_error.mp hcheck).imp And.right fun ⟨_, _, _, he⟩ => he, exec_init_of_initCheck_error hcheck⟩
  | ok p => exact absurd (exists_initCheck_eq_ok_iff.mp ⟨p, hcheck⟩) h

theorem exec_enc_dec_of_phase_ne_ready {s : State} (h : s.phase ≠ .ready) (din : Vector Byte 16) :
    exec (.enc din) s = .refused .contextNotInitialised ∧ exec (.dec din) s = .refused .contextNotInitialised :=
  ⟨blockCommand_of_phase_ne_ready s.ek din h, blockCommand_of_phase_ne_ready s.dk din h⟩

/-- Settles O52: one row after the other, each from the lemma on its command. -/
theorem lifecycleTransitions : Obligations.LifecycleTransitions := by
  refine ⟨resetCore_phase, fun s keyLen key hlegal => ?_, fun s ctxv keyv keyLen key hillegal => ?_, fun s din hready => ?_,
    fun s din hphase => exec_enc_dec_of_phase_ne_ready hphase din, fun s => ?_⟩
  · obtain ⟨p, hparams⟩ := exists_selectParams_iff.mpr hlegal
    exact ⟨_, exec_init_of_selectParams hparams, expandKey_response p key keyLen s, expandKey_phase p key keyLen s⟩
  · obtain ⟨e, he, hexec⟩ := exec_init_of_illegal key s hillegal
    exact ⟨_, e, hexec, raiseError_response e s, he, raiseError_sameContext s e⟩
  · exact ⟨⟨_, blockCommand_of_blockReady s.ek din hready, blockAnswer_response s.ek din s, blockAnswer_sameContext s.ek din s⟩,
      ⟨_, blockCommand_of_blockReady s.dk din hready, blockAnswer_response s.dk din s, blockAnswer_sameContext s.dk din s⟩⟩
  · exact ⟨_, exec_deinit s, deinitAnswer_response s, deinitAnswer_phase s, deinitAnswer_rawZero s⟩

/-- Settles O53: a failed INIT leaves the phase EMPTY as it was, and a successful one leaves a block-ready context. -/
theorem initEnablesBlockCommands : Obligations.InitEnablesBlockCommands := by
  constructor
  · intro ctxv keyv keyLen key hillegal
    obtain ⟨e, -, hexec⟩ := exec_init_of_illegal key State.reset hillegal
    have hphase : (raiseError e State.reset).phase ≠ .ready := by
      rw [raiseError_phase]
      decide
    exact ⟨_, hexec, exec_enc_dec_of_phase_ne_ready hphase⟩
  · intro s keyLen key hlegal
    obtain ⟨p, hparams⟩ := exists_selectParams_iff.mpr hlegal
    have hready := expandKey_blockReady hparams key s
    exact ⟨_, exec_init_of_selectParams hparams, fun din =>
      ⟨⟨_, blockCommand_of_blockReady _ din hready⟩, ⟨_, blockCommand_of_blockReady _ din hready⟩⟩⟩

/-! ## The working registers (R14, R15) -/

section
variable {s s' : State} (h : s.SameButWork s')
include h

theorem raiseError_sameButWork (e : Status) : (raiseError e s).SameButWork (raiseError e s') := by
  obtain ⟨⟨hnr, hek, hdk, hphase⟩, hdout, -, hpending⟩ := h
  exact ⟨⟨hnr, hek, hdk, hphase⟩, hdout, rfl, hpending⟩

theorem expandKey_sameButWork (p : ScheduleParams) (key : Vector Byte 32) (keyLen : Nat) :
    (expandKey p key keyLen s).SameButWork (expandKey p key keyLen s') := by
  obtain ⟨⟨-, -, hdk, -⟩, hdout, -, hpending⟩ := h
  simp only [State.SameButWork, State.SameContext, expandKey_nr, expandKey_ek, expandKey_dk, expandKey_phase, expandKey_dout,
    expandKey_response, expandKey_pending, hdk, hdout, hpending, and_self]

theorem blockAnswer_sameButWork (rk : Vector Block 17) (din : Vector Byte 16) :
    (blockAnswer rk din s).SameButWork (blockAnswer rk din s') := by
  obtain ⟨⟨hnr, hek, hdk, hphase⟩, -, -, hpending⟩ := h
  simp only [State.SameButWork, State.SameContext, blockAnswer_nr, blockAnswer_ek, blockAnswer_dk, blockAnswer_phase, blockAnswer_dout,
    blockAnswer_response, blockAnswer_pending, hnr, hek, hdk, hphase, hpending, and_self]

theorem deinitAnswer_sameButWork : (deinitAnswer s).SameButWork (deinitAnswer s') := by
  obtain ⟨-, hdout, -, hpending⟩ := h
  exact ⟨⟨rfl, rfl, rfl, rfl⟩, hdout, rfl, hpending⟩

/-- Each way a command completes reads the context and the interface only. -/
theorem Completes.of_sameButWork {i : Instr} {t : State} (hcompletes : Completes i s t) :
    ∃ t', Completes i s' t' ∧ t.SameButWork t' := by
  have ⟨⟨hnr, hek, hdk, hphase⟩, _⟩ := h
  have hready' (hready : s.BlockReady) : s'.BlockReady := hready.of_sameContext ⟨hnr.symm, hek.symm, hdk.symm, hphase.symm⟩
  cases hcompletes with
  | initFailed key s hcheck => exact ⟨_, .initFailed key s' hcheck, raiseError_sameButWork h _⟩
  | initDone key s hparams => exact ⟨_, .initDone key s' hparams, expandKey_sameButWork h _ key _⟩
  | enc din hready => exact ⟨_, .enc din (hready' hready), hek ▸ blockAnswer_sameButWork h s.ek din⟩
  | dec din hready => exact ⟨_, .dec din (hready' hready), hdk ▸ blockAnswer_sameButWork h s.dk din⟩
  | deinit s => exact ⟨_, .deinit s', deinitAnswer_sameButWork h⟩

end

/-- Settles O49: what completes completes alike, and a refusal rests on the phase and the round count. -/
theorem workRegistersNeverMatter : Obligations.WorkRegistersNeverMatter := by
  intro i s s' h
  constructor
  · intro t ht
    simpa only [exec_eq_next_iff] using (exec_eq_next_iff.mp ht).of_sameButWork h
  · intro r hr
    obtain ⟨⟨hnr, -, -, hphase⟩, -⟩ := h
    rwa [exec_eq_refused_iff, ← hnr, ← hphase, ← exec_eq_refused_iff]

/-! ## The result codes (R57) -/

theorem statusCode_injective (a b : Status) (h : statusCode a = statusCode b) : a = b := by
  revert h
  cases a <;> cases b <;> decide

/-- Settles O56: the codes are the definition's. -/
theorem statusCodes : Obligations.StatusCodes := ⟨rfl, rfl, rfl, rfl, statusCode_injective⟩

/-! ## The invariant (R16, R136, R148) -/

/-- A response that is OK, or an error other than OutOfResources without DOUT, is legal. -/
theorem responseLegal_of_response {s : State} {st : Status} {d : Bool} (hresponse : s.response = some ⟨st, d⟩)
    (hstatus : st ≠ .outOfResources) (hdout : d = true → st = .ok) : s.ResponseLegal := by
  intro r hr
  obtain rfl : ⟨st, d⟩ = r := by simpa [hresponse] using hr
  exact ⟨hstatus, hdout⟩

/-- The state after reset is EMPTY and has no response, and the invariant says nothing of it. -/
theorem fresh_inv (n : Nat) (events : List HostEvent) : (State.fresh n events).Inv := by
  refine ⟨fun hready => ?_, fun hzeroised => ?_, fun r hr => ?_⟩
  · cases hready
  · cases hzeroised
  · cases hr

theorem blockAnswer_inv (rk : Vector Block 17) (din : Vector Byte 16) {s : State} (hready : s.BlockReady) (hs : s.Inv) :
    (blockAnswer rk din s).Inv := by
  obtain ⟨hcoherent, -, -⟩ := hs
  obtain ⟨hphase, -⟩ := hready
  refine ⟨?_, fun hzeroised => ?_, responseLegal_of_response (blockAnswer_response rk din s) (by decide) (fun _ => rfl)⟩
  · simpa [State.ReadyCoherent, State.ScheduleScratchZero] using hcoherent
  · simp [hphase] at hzeroised

/-- Every command that completes keeps the invariant: an INIT that fails and a block command leave the context, a successful INIT leaves
a populated one, and DEINIT a zero one. -/
theorem Completes.inv {i : Instr} {s t : State} (h : Completes i s t) (hs : s.Inv) : t.Inv := by
  have ⟨hcoherent, hclean, _⟩ := hs
  cases h with
  | @initFailed ctxv keyv keyLen e key s hcheck =>
    have hstatus : e ≠ .outOfResources := fun he => initCheck_ne_outOfResources (he ▸ hcheck)
    exact ⟨hcoherent, hclean, responseLegal_of_response (raiseError_response _ s) hstatus (by simp)⟩
  | @initDone keyLen p key s hparams =>
    have ⟨_, hrounds⟩ := expandKey_blockReady hparams key s
    refine ⟨fun _ => ⟨hrounds, expandKey_mirroredKeys hparams key s, ?_⟩, fun hzeroised => ?_,
      responseLegal_of_response (expandKey_response p key keyLen s) (by decide) (by simp)⟩
    · exact ⟨expandKey_workW p key keyLen s, expandKey_workKL p key keyLen s, expandKey_workKR p key keyLen s⟩
    · simp at hzeroised
  | enc din hready => exact blockAnswer_inv s.ek din hready hs
  | dec din hready => exact blockAnswer_inv s.dk din hready hs
  | deinit s =>
    refine ⟨fun hready => ?_, fun _ => deinitAnswer_rawZero s,
      responseLegal_of_response (deinitAnswer_response s) (by decide) (by simp)⟩
    simp at hready

/-- Settles O60: it is a state after reset, with no event to come. -/
theorem invariantAtReset : Obligations.InvariantAtReset := fresh_inv 0 []

/-- Settles O59: an idle step changes nothing, a reset leaves a state that meets the invariant, and a command keeps it. -/
theorem invariantKept : Obligations.InvariantKept := by
  intro s t hs h
  rcases step_cases h with ⟨-, rfl⟩ | ⟨rest, -, rfl⟩ | ⟨c, rest, i, -, -, hexec⟩
  · exact hs
  · exact fresh_inv s.draws rest
  · have hpopped : State.Inv { s with pending := rest } := hs
    exact (exec_eq_next_iff.mp hexec).inv hpopped

end Sys2Proof.Machine
